-- ==== Sys2Proof/Word.lean ====
section
/-! DEFINITION. The word types of the TDV-16: bytes, 16-byte beats, addresses, part time. -/

namespace Sys2Proof

/-- One byte, the unit of SPI frames and of byte strobes. -/
abbrev Byte := BitVec 8

/-- A transaction id, 0–255 (R1). -/
abbrev TxnId := BitVec 8

/-- A 36-bit byte address of the memory ports (R1). -/
abbrev Addr := BitVec 36

/-- The sixteen data bytes of one beat (R1); byte n, at the n-th lowest address, is bits 8n+7..8n. -/
abbrev Line := BitVec 128

/-- Part time in milliseconds, modulo 2^32 (R184). -/
abbrev Time := BitVec 32

/-- A frame sequence number or identity code (section 2.2 of the manual). -/
abbrev Seq := BitVec 16

end Sys2Proof
end

