-- ==== Sys2Proof/Syntax.lean ====
section
/-! DEFINITION. The commands of the TDV-16: one constructor of Instr per row of spec/opcode_table.json, with the
operands the rules give the event. The rows have no fields of their own; what each command carries is said in
notes/assumptions 1, 4, 7, 8 and 18. -/

namespace Sys2Proof

/-- Direction of a transaction (R1). -/
inductive Dir where
  | read
  | write
  deriving DecidableEq, Repr

/-- Burst kind of a transaction (R1). -/
inductive Burst where
  | incrementing
  | wrapping
  deriving DecidableEq, Repr

/-- Response of a beat or of a write (R1). -/
inductive Resp where
  | okay
  | error
  deriving DecidableEq, Repr

/-- One beat of a read answer: sixteen bytes and a response (R1). -/
structure ReadBeat where
  data : Line
  resp : Resp
  deriving DecidableEq, Repr

/-- One beat of a write: a strobe per byte and sixteen bytes (R1). -/
structure WriteBeat where
  strobes : BitVec 16
  data    : Line
  deriving DecidableEq, Repr

/-- An upstream read request (R1). -/
structure ReadReq where
  id    : TxnId
  addr  : Addr
  burst : Burst
  beats : Nat
  deriving DecidableEq, Repr

/-- An upstream write request with its beats (R1); the beats travel with the request (log entry 1). -/
structure WriteReq where
  id    : TxnId
  addr  : Addr
  burst : Burst
  beats : List WriteBeat
  deriving DecidableEq, Repr

/-- What falls in one millisecond besides its step: a line is sampled, or a timer expires (R129, R184). -/
inductive StepEvent where
  | line (l : Fin 15)
  | freshness (stream : Fin 16)
  | frame (screen : Fin 2)
  | linger (side : Fin 2)
  | notice
  deriving DecidableEq, Repr

/-- The transaction a downstream answer belongs to, by its id or its place: one issued since the last assertion of RESET_N,
or one issued before it (R4, R16, log entry 31). -/
inductive AnswerTo (α : Type) where
  | sinceReset (which : α)
  | beforeReset (which : α)
  deriving DecidableEq, Repr

/-- The commands and events of the part. The 28 SPI requests carry `body`, the bytes of the request frame after
the command code: the length byte and the parameter bytes (section 11.1 of the manual). -/
inductive Instr where
  /-- An upstream read request arrives at the port (R2, R7). -/
  | upstreamReadAccepted (q : ReadReq)
  /-- An upstream write request arrives at the port (R2, R7). -/
  | upstreamWriteAccepted (q : WriteReq)
  /-- The data beats of the oldest accepted write whose data are outstanding are taken (R1). -/
  | writeDataTaken
  /-- The answer at the head of one order list is returned upstream (R3). -/
  | answerReturned (dir : Dir) (id : TxnId)
  /-- The DRAM controller accepts the oldest waiting downstream request (R4). -/
  | downstreamRequestIssued
  /-- A beat arrives for the oldest issued forwarded read of an id (R11). -/
  | forwardedReadBeat (id : AnswerTo TxnId) (beat : ReadBeat)
  /-- The response of the oldest issued forwarded write of an id arrives (R11). -/
  | forwardedWriteResponse (id : AnswerTo TxnId) (resp : Resp)
  /-- The response of the oldest issued steered write of an id arrives (R32). -/
  | steeredWriteResponse (id : AnswerTo TxnId) (resp : Resp)
  /-- A beat arrives for the oldest issued capture-window read of an id (R57). -/
  | captureReadBeat (id : AnswerTo TxnId) (beat : ReadBeat)
  /-- A beat arrives for the oldest issued review read of an id (R157). -/
  | reviewReadBeat (id : AnswerTo TxnId) (beat : ReadBeat)
  /-- A beat arrives for the n-th issued gather read, counted from 0 at the oldest (R111). -/
  | gatherReadBeat (n : AnswerTo Nat) (beat : ReadBeat)
  /-- The response of the n-th issued dump write, counted from 0 at the oldest, arrives (R182). -/
  | dumpWriteResponse (n : AnswerTo Nat) (resp : Resp)
  /-- RESET_N falls (R16). -/
  | resetNAsserted
  /-- RESET_N rises (R184). -/
  | resetNReleased
  /-- One millisecond of part time: the levels on the fifteen lines, bit d the line DOOR_OPENd, bit 12 CAB_B, bit 13
  REVERSE, bit 14 OBSTRUCT, and the order in which the changes at this sample, and any expiries that fall in with them,
  are taken (R129, R132, R184). -/
  | partTimeStep (levels : BitVec 15) (order : List StepEvent)
  /-- The freshness timer of a stream expires (R39). -/
  | freshnessTimerExpiry (stream : Fin 16)
  /-- The evaluation in flight completes (R80). -/
  | evaluationCompletion
  /-- The frame timer of a screen's open frame expires (R114). -/
  | screenFrameTimerExpiry (screen : Fin 2)
  /-- The linger timer of a side expires: 0 the lower side, 1 the upper side (R132). -/
  | lingerTimerExpiry (side : Fin 2)
  /-- The notice linger timer expires (R166). -/
  | noticeLingerExpiry
  /-- A RESPONSE frame of n whole bytes (R174). -/
  | response (n : Nat)
  /-- A CS_N frame of no whole byte (R173). -/
  | emptyFrame
  /-- A request frame whose code is absent from the table (R175). -/
  | unknownCommand (code : Byte)
  | setPool (body : List Byte)
  | setStream (body : List Byte)
  | enableStream (body : List Byte)
  | disableStream (body : List Byte)
  | setScreen (body : List Byte)
  | setLayout (body : List Byte)
  | selectLayout (body : List Byte)
  | setDoorView (body : List Byte)
  | setReverseView (body : List Byte)
  | setSoiling (body : List Byte)
  | setHold (body : List Byte)
  | setNotice (body : List Byte)
  | setNoticeMask (body : List Byte)
  | commit (body : List Byte)
  | returnToPass (body : List Byte)
  | softReset (body : List Byte)
  | resetBaseline (body : List Byte)
  | hold (body : List Byte)
  | release (body : List Byte)
  | review (body : List Byte)
  | dumpTiles (body : List Byte)
  | takeNotices (body : List Byte)
  | noticeLevel (body : List Byte)
  | readStreamStatus (body : List Byte)
  | readScreenStatus (body : List Byte)
  | readHolds (body : List Byte)
  | readLines (body : List Byte)
  | readPart (body : List Byte)
  deriving DecidableEq, Repr

end Sys2Proof
end

