-- ==== Sys2Proof/Decode.lean ====
section
/-! DEFINITION. Words of the opcode table. No row of spec/opcode_table.json gives its command any bits ("fields" is
empty and there is no "fixed" in all 51), so no word spells a command (log entry 15). The bytes of a request frame are
decoded in Machine/Operands.lean, where the request is executed. -/

namespace Sys2Proof

/-- The command a word of the table spells: none, whatever the word, since no row has bits. -/
def decodeTableWord (_nbits _w : Nat) : Option Instr := none

end Sys2Proof
end

