-- ==== Sys2Proof/Config.lean ====
section
/-! DEFINITION. What one TDV-16 fixes: its capacities, each with the rule that states it, and the one value the manual
leaves to the part. -/

namespace Sys2Proof.Config

/-- Reads, and writes, in flight on the upstream port at once (R2). -/
abbrev maxInFlight : Nat := 32

/-- One above the highest address FFFFFFFFF (R1). -/
abbrev addrEnd : Nat := 68719476736

/-- Records the notice queue holds (R163, R165). -/
abbrev noticeCapacity : Nat := 32

/-- Records the evaluation queue holds (section 4.7, R71). -/
abbrev evalCapacity : Nat := 4

/-- Slots all hold groups may hold together, and the highest group id (R149, R148). -/
abbrev holdCapacity : Nat := 8

/-- Slots of a stream that stay unheld (R149). -/
abbrev keptUnheld : Nat := 2

/-- Bytes of the frame header before the pixel rows (section 2.2). -/
abbrev headerBytes : Nat := 64

/-- Bytes of one dump record (section 11.7). -/
abbrev dumpRecordBytes : Nat := 400

/-- FREE VALUE: the id the part chooses for its n-th own downstream transaction (R4, R182; log entry 5). -/
opaque ownId : Nat → TxnId

end Sys2Proof.Config
end

