-- ==== Sys2Proof/Machine/State.lean ====
section
/-! DEFINITION. Everything the manual gives the TDV-16 to hold, block by block, and the values after pin reset. -/

namespace Sys2Proof.Machine

/-! ### Why a step can stop -/

/-- The manual names no event that stops the part, so no step faults (INVENTORY, Faults). Safe: nothing raises it. -/
inductive Fault where
  deriving DecidableEq, Repr

/-- Why the model has no meaning for a term. -/
inductive Refusal where
  /-- Raised by an arm of exec whose instruction has no meaning yet; safe (the model stops). -/
  | notModelled (mnemonic : String)
  /-- Raised by the two upstream requests for a beat count outside 1–16, which is no transaction of R1; safe. -/
  | notATransaction
  /-- Raised by a RESPONSE frame of no byte, which has no first byte 7F (R174); safe. -/
  | notAFrame
  /-- Raised by an unknown command whose code stands in the table of section 11.2 (R175); safe. -/
  | codeIsKnown
  deriving DecidableEq, Repr

/-! ### Transit Path (chapter 1) -/

/-- Device mode (section 1.4). -/
inductive Mode where
  | pass
  | draining
  | active
  deriving DecidableEq, Repr

/-- Pending change of the device mode (R13). -/
inductive Change where
  | none
  | enterActive
  | returnToPass
  | softReset
  deriving DecidableEq, Repr

/-- What a window of the map belongs to (section 1.2). -/
inductive WindowKind where
  | capture (stream : Fin 16)
  | screen (screen : Fin 2)
  | review
  | pool
  deriving DecidableEq, Repr

/-- One entry of the window map (section 1.2): the bytes base to base + extent - 1. -/
structure Window where
  kind   : WindowKind
  base   : Nat
  extent : Nat
  deriving DecidableEq, Repr

/-- A colour (R, G, B). -/
structure Colour where
  r : Byte
  g : Byte
  b : Byte
  deriving DecidableEq, Repr

/-- Overlay code of a pane (chapter 7). -/
inductive Overlay where
  | none
  | noSignal
  | stale
  | badgeSuspect
  | badgeSoiled
  deriving DecidableEq, Repr

/-- View kind of a screen frame (R106). -/
inductive ViewKind where
  | requested
  | door
  | reverse
  deriving DecidableEq, Repr

/-- One pane (section 6.2): a crop of a stream's frame, reduced by k, placed at (dx, dy). -/
structure Pane where
  stream : Fin 16
  sx : Nat
  sy : Nat
  sw : Nat
  sh : Nat
  k  : Nat
  dx : Nat
  dy : Nat
  mirror : Bool
  badge  : Bool
  deriving DecidableEq, Repr

/-- A pane of a latched view or of an unlatched read: with the stream's W and H, the slot and the overlay code fixed
at the latch or at the read's acceptance (R107 to R109, R115). -/
structure ViewPane where
  pane : Pane
  w : Nat
  h : Nat
  slot : Option Nat
  overlay : Overlay
  deriving DecidableEq, Repr

/-- One 16-byte block a screen read needs from a slot (R104), and the gather beat that brought it. -/
structure GatherBlock where
  slot   : Nat
  offset : Nat
  got    : Option ReadBeat
  deriving DecidableEq, Repr

/-- What a screen read is served from (R101 to R104, R113, R115). -/
structure ScreenRead where
  screen : Fin 2
  offset : Nat
  width  : Nat
  bg     : Colour
  panes  : List ViewPane
  blocks : List GatherBlock
  /-- Whether it belongs to the screen's frame; an unlatched read does not. -/
  latched : Bool
  /-- The slots an unlatched read has pinned, in the order in which R115 drops them. -/
  pins : List Nat
  deriving DecidableEq, Repr

/-- What the decode of a read named at its acceptance (R10, R12). -/
inductive ReadService where
  /-- Forwarded downstream unaltered (R11, R12). -/
  | forwarded
  /-- Answered by the part itself (R10, R56, R157). -/
  | answered
  /-- Translated to the CURRENT slot of a capture window's stream (R56). -/
  | capture (slot offset frameSize : Nat)
  /-- Mapped to a held slot, under the mapping with that serial number, group and auto-release flag (R157). -/
  | review (slot offset frameSize serial : Nat) (autoRelease : Bool)
  /-- Served by the Composition Engine (R105). -/
  | screen (r : ScreenRead)
  deriving DecidableEq, Repr

/-- A read in flight (R2, R3). `beats` holds the beats of its answer that have come, in address order. -/
structure ReadTxn where
  key     : Nat
  req     : ReadReq
  service : ReadService
  beats   : List ReadBeat
  deriving DecidableEq, Repr

/-- What the decode of a write named at its acceptance, and what became of it (R10, R22, R28, R31). -/
inductive WriteService where
  | forwarded
  | refused
  | held (stream : Fin 16)
  | steered (stream : Fin 16)
  | absorbed
  deriving DecidableEq, Repr

/-- A write in flight (R2, R3): answered once its data have been taken and its response is known (R1). -/
structure WriteTxn where
  key       : Nat
  req       : WriteReq
  service   : WriteService
  dataTaken : Bool
  response  : Option Resp
  deriving DecidableEq, Repr

/-- A request waiting at the upstream port (R2, R13). -/
inductive PortReq where
  | read (q : ReadReq)
  | write (q : WriteReq)
  deriving DecidableEq, Repr

/-- What caused a downstream transaction (R4); `key` is the name of the upstream transaction it serves. -/
inductive DownOwner where
  | forwardedRead (key : Nat)
  | forwardedWrite (key : Nat)
  | steeredWrite (key : Nat) (stream : Fin 16)
  | captureRead (key : Nat)
  | reviewRead (key : Nat)
  | gather (key : Nat) (slot offset : Nat)
  /-- A dump write; abandoned when SOFT RESET has ended its dump (R179). -/
  | dump (abandoned : Bool)
  deriving DecidableEq, Repr

/-- A downstream request (R4); `left` counts the answer beats still to come (1 for a write response). -/
structure DownReq where
  owner : DownOwner
  dir   : Dir
  id    : TxnId
  addr  : Nat
  burst : Burst
  beats : Nat
  data  : List WriteBeat
  left  : Nat
  deriving DecidableEq, Repr

/-- An answer as returned upstream: the beats of a read, or the response of a write (R1). -/
inductive Answer where
  | read (id : TxnId) (beats : List ReadBeat)
  | write (id : TxnId) (resp : Resp)
  deriving DecidableEq, Repr

/-- The state of the Transit Path (head of chapter 1). The order list of an id is the sub-list of `reads` or `writes`
with that id, and the counts in flight are the lengths (log entry 19). -/
structure Transit where
  mode        : Mode
  change      : Change
  drainedFrom : Mode
  windows     : List Window
  reads       : List ReadTxn
  writes      : List WriteTxn
  waiting     : List PortReq
  downWaiting : List DownReq
  downIssued  : List DownReq
  /-- MODEL: the name of the next accepted transaction. -/
  nextKey     : Nat
  /-- MODEL: own downstream transactions formed so far, the argument of Config.ownId. -/
  ownCount    : Nat
  /-- MODEL: the last answer returned upstream. -/
  lastAnswer  : Option Answer
  deriving DecidableEq, Repr

/-! ### Stream records (chapter 2), accumulator sets (chapter 4), tile tables and lens records (chapter 5) -/

/-- Role of a stream (section 2.1). -/
inductive Role where
  | none
  | door
  | endA
  | endB
  | spare
  deriving DecidableEq, Repr

/-- Configuration part of a stream record (section 2.1). -/
structure StreamConfig where
  role     : Role
  door     : Nat
  identity : Seq
  w        : Nat
  h        : Nat
  base     : Nat
  slotList : List Nat
  ageLimit : Nat
  mirror   : Bool
  exRows   : BitVec 6
  exCols   : BitVec 8
  enabled  : Bool
  deriving DecidableEq, Repr

/-- A frame being written: the companions of capture progress FILLING (section 2.3, R38). -/
structure Filling where
  slot       : Nat
  offset     : Nat
  frameSize  : Nat
  identity   : Seq
  sequence   : Seq
  disordered : Bool
  partFrame  : Bool
  damaged    : Bool
  endMark    : Bool
  signature  : BitVec 32
  deriving DecidableEq, Repr

/-- A capture write as the Capture Tracker sees it (R21): its transaction, its offset in the window, its beats. -/
structure CaptureWrite where
  key    : Nat
  id     : TxnId
  offset : Nat
  beats  : List WriteBeat
  deriving DecidableEq, Repr

/-- Freshness of a stream (section 2.6). -/
inductive Freshness where
  | noSignal
  | live
  | stale
  deriving DecidableEq, Repr

/-- Running part of a stream record (section 2.3). Capture progress is IDLE when `fill` is none. -/
structure Capture where
  fill      : Option Filling
  awaiting  : Nat
  heldWrites : List CaptureWrite
  /-- The FILLING slot of a frame abandoned by DISABLE STREAM, until its writes are answered (R20). -/
  abandoned : Option Nat
  freshness : Freshness
  timer     : Option Time
  lastSeq   : Option Seq
  missed    : Nat
  orphans   : Nat
  lost      : Nat
  deriving DecidableEq, Repr

/-- Collection state of an accumulator set (section 4.1). -/
inductive Collection where
  | idle
  | collecting
  | dropped
  deriving DecidableEq, Repr

/-- The four sums of one tile (section 4.1). -/
structure TileSums where
  edge : Nat
  grad : Nat
  luma : Nat
  pix  : Nat
  deriving DecidableEq, Repr

/-- The accumulator set of a stream and the three figures that outlive the frame (section 4.1). -/
structure Accumulators where
  state      : Collection
  w          : Nat
  h          : Nat
  tw         : Nat
  th         : Nat
  tiles      : Vector TileSums 48
  incomplete : Nat
  /-- The luma of the pixel handled last, with that pixel's index. -/
  carried    : Option (Nat × Nat)
  skipped    : Nat
  lastOffered    : Option Seq
  lastComplete   : Nat
  lastIncomplete : Nat
  deriving DecidableEq, Repr

/-- State of a tile (section 5.2). -/
inductive TileState where
  | learning
  | sharp
  | blurred
  deriving DecidableEq, Repr

/-- A tile record (section 5.2). -/
structure Tile where
  state    : TileState
  learned  : Nat
  baseline : Nat
  persist  : Nat
  lastE    : Nat
  lastQ    : Nat
  deriving DecidableEq, Repr

/-- Lens state (section 5.2). -/
inductive LensState where
  | learning
  | clean
  | suspect
  | soiled
  deriving DecidableEq, Repr

/-- A lens record (section 5.2). -/
structure Lens where
  state        : LensState
  fraction     : Nat
  counted      : Nat
  blurred      : Nat
  evaluations  : Nat
  inconclusive : Nat
  dark         : Nat
  glare        : Nat
  lastSeq      : Option Seq
  deriving DecidableEq, Repr

/-- All that the part holds per stream. -/
structure Stream where
  cfg   : StreamConfig
  cap   : Capture
  acc   : Accumulators
  tiles : Vector Tile 48
  lens  : Lens
  deriving DecidableEq, Repr

/-! ### Slot Pool (chapter 3) -/

/-- Lifecycle of a slot (section 3.4). -/
inductive Life where
  | free
  | filling
  | current
  | retired
  deriving DecidableEq, Repr

/-- A slot record (section 3.2); held when `hold` gives a group id. -/
structure Slot where
  life      : Life
  owner     : Option (Fin 16)
  valid     : Bool
  sequence  : Seq
  frameSize : Nat
  stamp     : Time
  signature : BitVec 32
  sigValid  : Bool
  partFrame : Bool
  pins      : Nat
  hold      : Option Nat
  deriving DecidableEq, Repr

/-- The state of the Slot Pool: configuration, records, free list and content lists (sections 3.1 to 3.3). -/
structure SlotPool where
  isSet   : Bool
  base    : Nat
  review  : Nat
  size    : Nat
  count   : Nat
  slots   : List Slot
  free    : List Nat
  content : Vector (List Nat) 16
  deriving DecidableEq, Repr

/-! ### Evaluation Engine (chapters 4 and 5) -/

/-- A frame record of the evaluation queue (R70). -/
structure FrameRecord where
  stream   : Fin 16
  sequence : Seq
  edge     : Vector Nat 48
  grad     : Vector Nat 48
  luma     : Nat
  pix      : Nat
  deriving DecidableEq, Repr

/-- The record in evaluation and its discard mark (section 5.3). -/
structure InEvaluation where
  frame   : FrameRecord
  discard : Bool
  deriving DecidableEq, Repr

/-- The soiling settings (section 5.1). -/
structure Soiling where
  low        : Nat
  high       : Nat
  persistOn  : Nat
  persistOff : Nat
  learn      : Nat
  adapt      : Nat
  suspect    : Nat
  soiled     : Nat
  dark       : Nat
  glare      : Nat
  badge      : Bool
  deriving DecidableEq, Repr

/-- The state of the Evaluation Engine that is not per stream; EVALUATING when `current` is present. -/
structure Evaluator where
  queue   : List FrameRecord
  current : Option InEvaluation
  soiling : Soiling
  deriving DecidableEq, Repr

/-! ### Composition Engine (chapter 6) -/

/-- A stored layout (section 6.2). -/
structure Layout where
  bg    : Colour
  panes : List Pane
  deriving DecidableEq, Repr

/-- A screen-frame record (section 6.6); OPEN unless `expired`. -/
structure ScreenFrame where
  expired  : Bool
  kind     : ViewKind
  layout   : Option (Fin 16)
  bg       : Colour
  panes    : List ViewPane
  latched  : Time
  endSeen  : Bool
  inFlight : Nat
  accepted : Nat
  timer    : Option Time
  deriving DecidableEq, Repr

/-- A kept view (R116). -/
structure KeptView where
  kind  : ViewKind
  bg    : Colour
  panes : List Pane
  deriving DecidableEq, Repr

/-- All that the Composition Engine holds per screen (head of chapter 6). -/
structure Screen where
  isSet     : Bool
  base      : Nat
  w         : Nat
  h         : Nat
  timeout   : Nat
  requested : Fin 16
  frame     : Option ScreenFrame
  kept      : Option KeptView
  prevKind  : ViewKind
  unlatched : Nat
  latches   : Nat
  restarts  : Nat
  timeouts  : Nat
  unlatchedReads : Nat
  faults    : Nat
  deriving DecidableEq, Repr

/-- The state of the Composition Engine. -/
structure Composer where
  screens : Vector Screen 2
  layouts : Vector Layout 16
  deriving DecidableEq, Repr

/-! ### Line Monitor (chapter 8) -/

/-- A line record (R129). -/
structure LineRecord where
  sampled   : Bool
  debounced : Bool
  run       : Nat
  deriving DecidableEq, Repr

/-- A side record (R132): its linger timer and its kept door list, in door-number order. -/
structure Side where
  timer : Option Time
  kept  : List Nat
  deriving DecidableEq, Repr

/-- The state of the Line Monitor. Lines 0–11 are the doors, 12 CAB_B, 13 REVERSE, 14 OBSTRUCT. -/
structure LineMonitor where
  lines         : Vector LineRecord 15
  doorEnable    : Bool
  linger        : Nat
  reverseEnable : Bool
  preferred     : Fin 2
  sides         : Vector Side 2
  hidden        : Bool
  obstructions  : Nat
  deriving DecidableEq, Repr

/-! ### Hold Table (chapter 9) -/

/-- Cause of a hold group (section 9.1). -/
inductive Cause where
  | obstruction
  | command
  deriving DecidableEq, Repr

/-- A hold group (section 9.1). -/
structure Group where
  id     : Nat
  cause  : Cause
  stream : Fin 16
  stamp  : Time
  slots  : List Nat
  post   : Nat
  deriving DecidableEq, Repr

/-- The review mapping (R156); `serial` tells one mapping from a later one to the same slot (R158). -/
structure Mapping where
  serial : Nat
  group  : Nat
  index  : Nat
  slot   : Nat
  autoRelease : Bool
  deriving DecidableEq, Repr

/-- The state of the Hold Table. The held total is the sum of the groups' slot counts (R148, log entry 19). -/
structure HoldTable where
  groups  : List Group
  mapping : Option Mapping
  pre     : Nat
  post    : Nat
  /-- MODEL: the serial number of the next mapping. -/
  nextSerial : Nat
  deriving DecidableEq, Repr

/-! ### Notice Queue (chapter 10) -/

/-- The notice kinds of section 10.1, in the order of their codes 0–20. -/
inductive Kind where
  | frameLost
  | frameDisordered
  | sequenceGap
  | sequenceRegress
  | streamStale
  | streamLive
  | doorBlind
  | lensChange
  | evalSkipped
  | guardHit
  | splitAccess
  | gatherFault
  | screenTimeout
  | viewChange
  | reverseHidden
  | holdMade
  | holdClamped
  | holdRefused
  | holdReleased
  | dumpDone
  | dumpFault
  deriving DecidableEq, Repr

/-- A notice record (section 10.1). -/
structure Notice where
  kind       : Kind
  subject    : Nat
  value      : Nat
  stamp      : Time
  repeats    : Nat
  lostBefore : Nat
  deriving DecidableEq, Repr

/-- The state of the Notice Queue and the pin NTF_N (`asserted` is the line driven low). -/
structure NoticeQueue where
  records   : List Notice
  lost      : Nat
  due       : Bool
  timer     : Option Time
  enable    : BitVec 21
  immediate : BitVec 21
  trigger   : Nat
  linger    : Nat
  asserted  : Bool
  deriving DecidableEq, Repr

/-! ### Control Port (chapter 11) -/

/-- Status codes of section 11.2, in the order of their numbers 0–13. -/
inductive Status where
  | done
  | accepted
  | busy
  | badParam
  | badCode
  | state
  | inUse
  | overlap
  | tooLarge
  | limit
  | notFound
  | doorsOpen
  | holdsPresent
  | badAddress
  deriving DecidableEq, Repr

/-- The response buffer (R173); PENDING with the command that is executing. -/
inductive Buffer where
  | empty
  | pending (command : Change)
  | ready (status : Status) (data : List Byte)
  deriving DecidableEq, Repr

/-- A running dump (R181, R182); `snapshot` is none while it waits for an evaluation of the stream to complete. -/
structure Dump where
  first    : Nat
  last     : Nat
  dest     : Nat
  stream   : Fin 16
  snapshot : Option (List Byte)
  awaiting : Nat
  error    : Bool
  written  : Nat
  deriving DecidableEq, Repr

/-- The state of the Control Port; the dump engine is IDLE when `dump` is none. -/
structure ControlPort where
  buffer : Buffer
  dump   : Option Dump
  /-- MODEL: the bytes driven on MISO in the last frame (section 11.1). -/
  miso   : List Byte
  deriving DecidableEq, Repr

/-! ### The part -/

/-- The part: its blocks, part time (R184), the level of RESET_N, and the queue of waiting commands. -/
structure State where
  transit : Transit
  streams : Vector Stream 16
  pool    : SlotPool
  evals   : Evaluator
  comp    : Composer
  lines   : LineMonitor
  holds   : HoldTable
  notices : NoticeQueue
  port    : ControlPort
  time    : Time
  /-- RESET_N is asserted (low). -/
  inReset : Bool
  /-- The commands that are waiting, first in first out. -/
  pending : List Instr
  deriving DecidableEq, Repr

/-! ### Values after pin reset -/

/-- Section 1, head table, after pin reset. -/
def Transit.reset : Transit where
  mode := .pass
  change := .none
  drainedFrom := .pass
  windows := []
  reads := []
  writes := []
  waiting := []
  downWaiting := []
  downIssued := []
  nextKey := 0
  ownCount := 0
  lastAnswer := none

/-- Section 2.1, after pin reset. -/
def StreamConfig.reset : StreamConfig where
  role := .none
  door := 0
  identity := 0
  w := 320
  h := 240
  base := 0
  slotList := []
  ageLimit := 200
  mirror := false
  exRows := 0
  exCols := 0
  enabled := false

/-- The running part after pin reset (R42, R44). -/
def Capture.reset : Capture where
  fill := none
  awaiting := 0
  heldWrites := []
  abandoned := none
  freshness := .noSignal
  timer := none
  lastSeq := none
  missed := 0
  orphans := 0
  lost := 0

/-- Section 4.1, after pin reset. -/
def Accumulators.reset : Accumulators where
  state := .idle
  w := 0
  h := 0
  tw := 0
  th := 0
  tiles := Vector.replicate 48 ⟨0, 0, 0, 0⟩
  incomplete := 0
  carried := none
  skipped := 0
  lastOffered := none
  lastComplete := 0
  lastIncomplete := 0

/-- A tile after pin reset (section 5.2). -/
def Tile.reset : Tile := ⟨.learning, 0, 0, 0, 0, 0⟩

/-- A lens after pin reset (section 5.2). -/
def Lens.reset : Lens := ⟨.learning, 0, 0, 0, 0, 0, 0, 0, none⟩

/-- A stream after pin reset. -/
def Stream.reset : Stream where
  cfg := StreamConfig.reset
  cap := Capture.reset
  acc := Accumulators.reset
  tiles := Vector.replicate 48 Tile.reset
  lens := Lens.reset

/-- The Slot Pool after pin reset (R61). -/
def SlotPool.reset : SlotPool where
  isSet := false
  base := 0
  review := 0
  size := 0
  count := 0
  slots := []
  free := []
  content := Vector.replicate 16 []

/-- The defaults of section 5.1. -/
def Soiling.reset : Soiling where
  low := 128
  high := 192
  persistOn := 3
  persistOff := 3
  learn := 8
  adapt := 5
  suspect := 64
  soiled := 96
  dark := 24
  glare := 232
  badge := true

/-- The Evaluation Engine after pin reset (R96, R75). -/
def Evaluator.reset : Evaluator := ⟨[], none, Soiling.reset⟩

/-- Black, the background of an empty layout and of the generated views. -/
def Colour.black : Colour := ⟨0, 0, 0⟩

/-- A screen after pin reset (R119). -/
def Screen.reset : Screen where
  isSet := false
  base := 0
  w := 320
  h := 240
  timeout := 100
  requested := 0
  frame := none
  kept := none
  prevKind := .requested
  unlatched := 0
  latches := 0
  restarts := 0
  timeouts := 0
  unlatchedReads := 0
  faults := 0

/-- The Composition Engine after pin reset (R119). -/
def Composer.reset : Composer := ⟨Vector.replicate 2 Screen.reset, Vector.replicate 16 ⟨Colour.black, []⟩⟩

/-- The Line Monitor after pin reset (R147). -/
def LineMonitor.reset : LineMonitor where
  lines := Vector.replicate 15 ⟨false, false, 0⟩
  doorEnable := true
  linger := 3000
  reverseEnable := true
  preferred := 1
  sides := Vector.replicate 2 ⟨none, []⟩
  hidden := false
  obstructions := 0

/-- The Hold Table after pin reset (R162). -/
def HoldTable.reset : HoldTable := ⟨[], none, 3, 2, 0⟩

/-- The Notice Queue after pin reset (R172). -/
def NoticeQueue.reset : NoticeQueue where
  records := []
  lost := 0
  due := false
  timer := none
  enable := BitVec.allOnes 21
  immediate := 0
  trigger := 1
  linger := 20
  asserted := false

/-- The Control Port after pin reset (section 11, head table). -/
def ControlPort.reset : ControlPort := ⟨.empty, none, []⟩

/-- The part right after the release of RESET_N (R184): every block at its values after pin reset, part time 0, and no
command waiting. -/
def State.reset : State where
  transit := Transit.reset
  streams := Vector.replicate 16 Stream.reset
  pool := SlotPool.reset
  evals := Evaluator.reset
  comp := Composer.reset
  lines := LineMonitor.reset
  holds := HoldTable.reset
  notices := NoticeQueue.reset
  port := ControlPort.reset
  time := 0
  inReset := false
  pending := []

end Sys2Proof.Machine
end

