-- ==== Sys2Proof/Machine/Ops.lean ====
section
/-! DEFINITION. Operations every family uses: tables of fixed length, saturating counts, timers, byte fields, and the
named updates of one block of State. -/

namespace Sys2Proof.Machine

/-! ### Tables of fixed length -/

/-- Change entry i of a table. -/
def modAt {α : Type} {n : Nat} (v : Vector α n) (i : Fin n) (f : α → α) : Vector α n :=
  v.set i.val (f v[i])

/-- Change every entry of a table. -/
def mapAll {α β : Type} {n : Nat} (f : α → β) (v : Vector α n) : Vector β n :=
  ⟨⟨v.toArray.toList.map f⟩, by simp⟩

/-- A table from a function of the index. -/
def tabulate {β : Type} (n : Nat) (f : Fin n → β) : Vector β n :=
  ⟨⟨(List.finRange n).map f⟩, by simp⟩

/-- A number as an index below n, where it is one. -/
def index? (n k : Nat) : Option (Fin n) := if h : k < n then some ⟨k, h⟩ else none

/-- The least pair, by its first component and then its second. -/
def leastPair : List (Nat × Nat) → Option (Nat × Nat)
  | [] => none
  | p :: ps =>
    match leastPair ps with
    | none => some p
    | some q => if q.1 < p.1 ∨ (q.1 = p.1 ∧ q.2 < p.2) then some q else some p

/-- The distinct entries of a list, each at its first place. -/
def distinct {α : Type} [DecidableEq α] : List α → List α
  | [] => []
  | x :: xs => x :: (distinct xs).filter (fun y => !decide (y = x))

/-! ### Counts and clamps -/

/-- Add k, saturating at `top` (Conventions: a value that saturates stays at its limit). -/
def satAdd (top n k : Nat) : Nat := min top (n + k)

/-- The nearest value in the range lo to hi (Conventions: clamped). -/
def clamp (lo hi n : Nat) : Nat := min hi (max lo n)

/-- The limit of the 16-bit counts. -/
def top16 : Nat := 65535

/-- The limit of the 32-bit counts. -/
def top32 : Nat := 4294967295

/-! ### Part time and timers (R184) -/

/-- Part time `ms` milliseconds later. -/
def laterBy (now : Time) (ms : Nat) : Time := now + BitVec.ofNat 32 ms

/-- Whether a timer is running and part time stands at its value: the one at which it expires (R184). -/
def timerDue (now : Time) (timer : Option Time) : Bool := decide (timer = some now)

/-- Time left in ms, modulo 2^32; 0 for a stopped timer (R180). -/
def timeLeft (now : Time) : Option Time → Nat
  | none => 0
  | some e => (e - now).toNat

/-! ### Byte fields, little-endian (Conventions) -/

/-- The value of a run of bytes, the least significant first. -/
def leValue : List Byte → Nat
  | [] => 0
  | b :: bs => b.toNat + 256 * leValue bs

/-- n bytes of a value, the least significant first. -/
def leBytes : Nat → Nat → List Byte
  | 0, _ => []
  | n + 1, v => BitVec.ofNat 8 v :: leBytes n (v / 256)

/-- The value of the n-byte field at `off`. -/
def field (bs : List Byte) (off n : Nat) : Nat := leValue ((bs.drop off).take n)

/-- Byte n of a beat, at the n-th lowest address (log entry 16). -/
def lineByte (d : Line) (n : Nat) : Byte := d.extractLsb' (8 * n) 8

/-- A beat from its sixteen bytes, the lowest address first. -/
def lineOf (bs : List Byte) : Line := BitVec.ofNat 128 (leValue bs)

/-- A flag byte (R180). -/
def flagByte (b : Bool) : Byte := if b then 1 else 0

/-! ### Named updates of one block -/

def State.modTransit (s : State) (f : Transit → Transit) : State := { s with transit := f s.transit }
def State.modStream (s : State) (i : Fin 16) (f : Stream → Stream) : State :=
  { s with streams := modAt s.streams i f }
def State.modPool (s : State) (f : SlotPool → SlotPool) : State := { s with pool := f s.pool }
def State.modEvals (s : State) (f : Evaluator → Evaluator) : State := { s with evals := f s.evals }
def State.modScreen (s : State) (c : Fin 2) (f : Screen → Screen) : State :=
  { s with comp := { s.comp with screens := modAt s.comp.screens c f } }
def State.modLines (s : State) (f : LineMonitor → LineMonitor) : State := { s with lines := f s.lines }
def State.modHolds (s : State) (f : HoldTable → HoldTable) : State := { s with holds := f s.holds }
def State.modNotices (s : State) (f : NoticeQueue → NoticeQueue) : State := { s with notices := f s.notices }
def State.modPort (s : State) (f : ControlPort → ControlPort) : State := { s with port := f s.port }

/-- The record of stream i. -/
def State.stream (s : State) (i : Fin 16) : Stream := s.streams[i]

/-- The record of screen c. -/
def State.screen (s : State) (c : Fin 2) : Screen := s.comp.screens[c]

/-- Change the running part of stream i. -/
def State.modCapture (s : State) (i : Fin 16) (f : Capture → Capture) : State :=
  s.modStream i (fun st => { st with cap := f st.cap })

/-- Change the accumulator set and figures of stream i. -/
def State.modAcc (s : State) (i : Fin 16) (f : Accumulators → Accumulators) : State :=
  s.modStream i (fun st => { st with acc := f st.acc })

/-- In ACTIVE, or in DRAINING entered from ACTIVE (R13, R141, R144, R145). -/
def State.isLive (s : State) : Bool :=
  decide (s.transit.mode = .active ∨ (s.transit.mode = .draining ∧ s.transit.drainedFrom = .active))

end Sys2Proof.Machine
end

