-- ==== Sys2Proof/Machine/Notices.lean ====
section
/-! DEFINITION. The Notice Queue (chapter 10): taking a notice, the linger due flag and timer, NTF_N. -/

namespace Sys2Proof.Machine

/-- The code of a notice kind (section 10.1). -/
def Kind.code : Kind → Nat
  | .frameLost => 0
  | .frameDisordered => 1
  | .sequenceGap => 2
  | .sequenceRegress => 3
  | .streamStale => 4
  | .streamLive => 5
  | .doorBlind => 6
  | .lensChange => 7
  | .evalSkipped => 8
  | .guardHit => 9
  | .splitAccess => 10
  | .gatherFault => 11
  | .screenTimeout => 12
  | .viewChange => 13
  | .reverseHidden => 14
  | .holdMade => 15
  | .holdClamped => 16
  | .holdRefused => 17
  | .holdReleased => 18
  | .dumpDone => 19
  | .dumpFault => 20

/-- The coalescing kinds (section 10.1). -/
def Kind.coalescing : Kind → Bool
  | .frameDisordered | .evalSkipped | .guardHit | .splitAccess | .gatherFault => true
  | _ => false

/-- Whether a kind is enabled (R164, R169). -/
def NoticeQueue.enabled (q : NoticeQueue) (k : Kind) : Bool := q.enable.getLsbD k.code

/-- A record that asserts the line at once: DOOR_BLIND, or a kind marked in the immediate mask (R167). -/
def NoticeQueue.isImmediate (q : NoticeQueue) (r : Notice) : Bool :=
  decide (r.kind = .doorBlind) || q.immediate.getLsbD r.kind.code

/-- The first condition of R167: the count is at least the trigger level. -/
def NoticeQueue.countHolds (q : NoticeQueue) : Bool := decide (q.trigger ≤ q.records.length)

/-- The third condition of R167: an immediate kind is queued. -/
def NoticeQueue.immediateHolds (q : NoticeQueue) : Bool := q.records.any q.isImmediate

/-- When NTF_N is asserted (R167). -/
def NoticeQueue.lineCondition (q : NoticeQueue) : Bool :=
  !q.records.isEmpty && (q.countHolds || q.due || q.immediateHolds)

/-- NTF_N follows the conditions of R167. -/
def NoticeQueue.driveLine (q : NoticeQueue) : NoticeQueue := { q with asserted := q.lineCondition }

/-- Decide the linger due flag and timer for the oldest record (R166). -/
def NoticeQueue.decideLinger (q : NoticeQueue) (now : Time) : NoticeQueue :=
  match q.records with
  | [] => { q with due := false, timer := none }
  | r :: _ =>
    if q.linger ≤ (now - r.stamp).toNat then { q with due := true, timer := none }
    else { q with due := false, timer := some (laterBy r.stamp q.linger) }

/-- Whether a notice is merged into the newest record (R164). -/
def NoticeQueue.merges (q : NoticeQueue) (k : Kind) (subject : Nat) : Bool :=
  match q.records.getLast? with
  | none => false
  | some r => k.coalescing && decide (r.kind = k ∧ r.subject = subject ∧ r.repeats < 255 ∧ q.lost = 0)

/-- The queue with one more repeat counted in its newest record. -/
def NoticeQueue.mergeNewest (q : NoticeQueue) : NoticeQueue :=
  match q.records.getLast? with
  | none => q
  | some r => { q with records := q.records.dropLast ++ [{ r with repeats := r.repeats + 1 }] }

/-- Add a new record, or discard it at a full queue (R165). -/
def NoticeQueue.add (q : NoticeQueue) (now : Time) (k : Kind) (subject value : Nat) : NoticeQueue :=
  if q.records.length < Config.noticeCapacity then
    let r : Notice := ⟨k, subject, value, now, 1, q.lost⟩
    let q' := { q with records := q.records ++ [r], lost := 0 }
    (if q.records.isEmpty then q'.decideLinger now else q').driveLine
  else { q with lost := satAdd 255 q.lost 1 }

/-- Take one notice (R164). -/
def NoticeQueue.take (q : NoticeQueue) (now : Time) (k : Kind) (subject value : Nat) : NoticeQueue :=
  if !q.enabled k then q
  else if q.merges k subject then q.mergeNewest
  else q.add now k subject value

/-- A block sends a notice (R163). -/
def State.notify (s : State) (k : Kind) (subject value : Nat) : State :=
  s.modNotices (fun q => q.take s.time k subject value)

/-- The queue emptied and NTF_N released (R16, R172). -/
def NoticeQueue.clear (q : NoticeQueue) : NoticeQueue :=
  { q with records := [], lost := 0, due := false, timer := none, asserted := false }

/-- Remove the n oldest records; the flag, the timer and NTF_N follow (R166, R170). -/
def NoticeQueue.drop (q : NoticeQueue) (now : Time) (n : Nat) : NoticeQueue :=
  if q.records.isEmpty then q
  else (({ q with records := q.records.drop n } : NoticeQueue).decideLinger now).driveLine

end Sys2Proof.Machine
end

