-- ==== Sys2Proof/Machine/Statistics.lean ====
section
/-! DEFINITION. The Statistics Unit (chapter 4) and the frame signature (R38): what the bytes of a capture write do to
the accumulator set and to the running signature. -/

namespace Sys2Proof.Machine

/-- The frame size of W × H pixels (section 2.1). -/
def frameSizeOf (w h : Nat) : Nat := Config.headerBytes + 4 * w * h

/-- One byte taken into the running signature (R38). -/
def crcByte (c : BitVec 32) (b : Byte) : BitVec 32 :=
  (List.range 8).foldl (fun v _ => if v.getLsbD 0 then (v >>> 1) ^^^ 0xEDB88320#32 else v >>> 1) (c ^^^ b.setWidth 32)

/-- Byte n of a write beat, a byte whose strobe is clear counting as zero (R21, R30, R38). -/
def strobedByte (x : WriteBeat) (n : Nat) : Byte := if x.strobes.getLsbD n then lineByte x.data n else 0

/-- The beats of a write with their offsets in the frame (R21). -/
def beatsAt (offset : Nat) (beats : List WriteBeat) : List (Nat × WriteBeat) :=
  beats.zipIdx.map (fun x => (offset + 16 * x.2, x.1))

/-- The beats of a write that carry pixels: offsets 64 to frame size - 1 (section 4.2). -/
def pixelBeats (offset frameSize : Nat) (beats : List WriteBeat) : List (Nat × WriteBeat) :=
  (beatsAt offset beats).filter (fun x => decide (Config.headerBytes ≤ x.1 ∧ x.1 < frameSize))

/-- The running signature after the pixel bytes of a write (R38). -/
def crcWrite (c : BitVec 32) (offset frameSize : Nat) (beats : List WriteBeat) : BitVec 32 :=
  (pixelBeats offset frameSize beats).foldl
    (fun c x => (List.range 16).foldl (fun c n => crcByte c (strobedByte x.2 n)) c) c

/-- The luma of a complete pixel (R64). -/
def lumaOf (r g b : Nat) : Nat := (77 * r + 150 * g + 29 * b + 128) / 256

/-- The tile of a pixel, in row-major order (R65, section 4.1). -/
def tileOf (tw th x y : Nat) : Fin 48 :=
  ⟨8 * min 5 (y / th) + min 7 (x / tw), by have := Nat.min_le_left 5 (y / th); have := Nat.min_le_left 7 (x / tw); omega⟩

/-- The four sums, the incomplete count and the carried luma cleared; geometry kept (R62, R69). -/
def Accumulators.clearSums (a : Accumulators) : Accumulators :=
  { a with tiles := Vector.replicate 48 ⟨0, 0, 0, 0⟩, incomplete := 0, carried := none }

/-- A frame start clears the set and fixes the geometry (R62); the collection state is IDLE until a slot is given. -/
def Accumulators.start (a : Accumulators) (w h : Nat) : Accumulators :=
  { a.clearSums with state := .idle, w := w, h := h, tw := w / 8, th := h / 6 }

/-- The measurement of a frame is dropped (R69): the state named is IDLE, or DROPPED at a first disorder. -/
def Accumulators.dropTo (a : Accumulators) (state : Collection) : Accumulators := { a.clearSums with state := state }

/-- The gradient of a complete pixel of luma y at index p, where one is formed (R67). -/
def Accumulators.gradient (a : Accumulators) (p y : Nat) : Option Nat :=
  match a.carried with
  | none => none
  | some (prev, q) => if 1 ≤ p % a.w ∧ q + 1 = p then some (max y prev - min y prev) else none

/-- One pixel of index p in COLLECTING: none for an incomplete pixel, its luma for a complete one (R66). -/
def Accumulators.takePixel (a : Accumulators) (p : Nat) (luma : Option Nat) : Accumulators :=
  match luma with
  | none => { a with incomplete := a.incomplete + 1, carried := none }
  | some y =>
    let t := tileOf a.tw a.th (p % a.w) (p / a.w)
    let g := a.gradient p y
    { a with
      tiles := modAt a.tiles t (fun x =>
        { edge := x.edge + g.getD 0
          grad := x.grad + (if g.isSome then 1 else 0)
          luma := x.luma + y
          pix := x.pix + 1 })
      carried := some (y, p) }

/-- The luma of pixel i (0–3) of a beat, or none when one of its four strobes is clear (R63, R64). -/
def pixelLuma (x : WriteBeat) (i : Nat) : Option Nat :=
  if (List.range 4).all (fun j => x.strobes.getLsbD (4 * i + j)) then
    some (lumaOf (lineByte x.data (4 * i)).toNat (lineByte x.data (4 * i + 1)).toNat (lineByte x.data (4 * i + 2)).toNat)
  else none

/-- The four pixels of one beat at a frame offset (R63). -/
def Accumulators.takeBeat (a : Accumulators) (x : Nat × WriteBeat) : Accumulators :=
  (List.range 4).foldl (fun a i => a.takePixel ((x.1 - Config.headerBytes) / 4 + i) (pixelLuma x.2 i)) a

/-- The pixels of one steered write, in ascending address order; taken in COLLECTING only (R63, R66). -/
def Accumulators.takeWrite (a : Accumulators) (offset frameSize : Nat) (beats : List WriteBeat) : Accumulators :=
  if a.state = .collecting then (pixelBeats offset frameSize beats).foldl Accumulators.takeBeat a else a

/-- The sum of a figure over the 48 tiles. -/
def Accumulators.total (a : Accumulators) (f : TileSums → Nat) : Nat := (a.tiles.toList.map f).sum

/-- The frame record of an accepted frame (R70). -/
def Accumulators.frameRecord (a : Accumulators) (i : Fin 16) (sequence : Seq) : FrameRecord where
  stream := i
  sequence := sequence
  edge := mapAll TileSums.edge a.tiles
  grad := mapAll TileSums.grad a.tiles
  luma := a.total TileSums.luma
  pix := a.total TileSums.pix

/-- The figures after a record has been formed (R70). -/
def Accumulators.offered (a : Accumulators) (sequence : Seq) : Accumulators :=
  { a with state := .idle, lastOffered := some sequence, lastComplete := a.total TileSums.pix, lastIncomplete := a.incomplete }

/-- The set at the drain completions of COMMIT and RETURN TO PASS (R75): IDLE and cleared, the rest kept. -/
def Accumulators.modeChange (a : Accumulators) : Accumulators := a.dropTo .idle

/-- The set at the drain completion of SOFT RESET (R75): as above, with the figures at their reset values. -/
def Accumulators.softReset (a : Accumulators) : Accumulators :=
  { a.modeChange with skipped := 0, lastOffered := none, lastComplete := 0, lastIncomplete := 0 }

end Sys2Proof.Machine
end

