-- ==== Sys2Proof/Machine/Evaluation.lean ====
section
/-! DEFINITION. The outcome of one evaluation (chapter 5, R81 to R91), the evaluation queue (R71 to R73), and the dump
record of a stream (section 11.7). -/

namespace Sys2Proof.Machine

/-- Whether tile t is excluded (R77). -/
def StreamConfig.excludes (c : StreamConfig) (t : Fin 48) : Bool :=
  c.exRows.getLsbD (t.val / 8) || c.exCols.getLsbD (t.val % 8)

/-- The code of a lens state (section 5.2). -/
def LensState.code : LensState → Nat
  | .learning => 0
  | .clean => 1
  | .suspect => 2
  | .soiled => 3

/-- The gate of step 1 (R81). -/
inductive Gate where
  | inconclusive
  | dark
  | glare
  | opened
  deriving DecidableEq, Repr

/-- Step 1, the frame gate (R81). -/
def gateOf (z : Soiling) (luma pix : Nat) : Gate :=
  if pix = 0 then .inconclusive
  else if luma / pix < z.dark then .dark
  else if z.glare < luma / pix then .glare
  else .opened

/-- Step 2, the edge energy of a tile, none when it is sparse (R82). -/
def edgeEnergy (edge grad : Nat) : Option Nat := if 64 ≤ grad then some (edge * 256 / grad) else none

/-- Step 3, one learning sample (R83); the correction is truncated toward zero. -/
def Tile.learnSample (z : Soiling) (x : Tile) (e : Nat) : Tile :=
  let n := x.learned + 1
  let b := ((x.baseline : Int) + Int.tdiv ((e : Int) - (x.baseline : Int)) (n : Int)).toNat
  if z.learn ≤ n then { x with learned := n, baseline := b, state := .sharp, persist := 0 }
  else { x with learned := n, baseline := b }

/-- Step 4, the ratio (R84). -/
def ratioOf (e b : Nat) : Nat := min 1023 (e * 256 / b)

/-- Step 5, the tile hysteresis (R85). -/
def Tile.hysteresis (z : Soiling) (x : Tile) (q : Nat) : Tile :=
  match x.state with
  | .learning => x
  | .sharp =>
    if q < z.low then
      if z.persistOn ≤ x.persist + 1 then { x with persist := 0, state := .blurred }
      else { x with persist := x.persist + 1 }
    else { x with persist := 0 }
  | .blurred =>
    if z.high < q then
      if z.persistOff ≤ x.persist + 1 then { x with persist := 0, state := .sharp }
      else { x with persist := x.persist + 1 }
    else { x with persist := 0 }

/-- Step 6, the baseline of a tile that is SHARP follows the scene (R86); the correction is floored. -/
def Tile.adaptBaseline (z : Soiling) (x : Tile) (e : Nat) : Tile :=
  let moved := (x.baseline : Int) + Int.fdiv ((e : Int) - (x.baseline : Int)) ((2 ^ z.adapt : Nat) : Int)
  if x.state = .sharp then { x with baseline := min 65280 moved.toNat } else x

/-- Steps 4 to 6 of a tile that was SHARP or BLURRED at the start (R84 to R86). -/
def Tile.classify (z : Soiling) (x : Tile) (e : Nat) : Tile :=
  if 16 ≤ x.baseline then
    let q := ratioOf e x.baseline
    ({ x with lastQ := q }.hysteresis z q).adaptBaseline z e
  else x

/-- Steps 2 to 6 of one non-excluded tile (R82 to R86). -/
def Tile.evaluate (z : Soiling) (x : Tile) (edge grad : Nat) : Tile :=
  match edgeEnergy edge grad with
  | none => x
  | some e =>
    let y := { x with lastE := e }
    if x.state = .learning then y.learnSample z e else y.classify z e

/-- The tile table after steps 2 to 6; excluded tiles are not touched (R90). -/
def evaluateTiles (z : Soiling) (c : StreamConfig) (r : FrameRecord) (tiles : Vector Tile 48) : Vector Tile 48 :=
  tabulate 48 (fun t => if c.excludes t then tiles[t] else tiles[t].evaluate z r.edge[t] r.grad[t])

/-- The number of non-excluded tiles of which p holds. -/
def countTiles (c : StreamConfig) (tiles : Vector Tile 48) (p : Tile → Bool) : Nat :=
  ((List.finRange 48).filter (fun t => !c.excludes t && p tiles[t])).length

/-- A tile that has completed learning: SHARP or BLURRED. -/
def Tile.past (x : Tile) : Bool := !decide (x.state = .learning)

/-- The lens state after an evaluation that gave f (R88). -/
def lensAfter (z : Soiling) (before : LensState) (f : Nat) : LensState :=
  if z.soiled ≤ f then .soiled
  else
    match before with
    | .learning | .clean => if z.suspect ≤ f then .suspect else .clean
    | .suspect => if z.suspect ≤ f + 16 then .suspect else .clean
    | .soiled => if z.soiled ≤ f + 16 then .soiled else if z.suspect ≤ f + 16 then .suspect else .clean

/-- Step 7, the lens count and the lens state (R87, R88). -/
def Lens.judge (z : Soiling) (x : Lens) (counted blurred : Nat) : Lens :=
  let y := { x with counted := counted, blurred := blurred }
  if counted < 8 then { y with inconclusive := satAdd top16 x.inconclusive 1 }
  else { y with fraction := blurred * 256 / counted, state := lensAfter z x.state (blurred * 256 / counted) }

/-- Step 8, the evaluation is recorded (R89). -/
def Lens.recordEvaluation (x : Lens) (sequence : Seq) : Lens :=
  { x with evaluations := satAdd top32 x.evaluations 1, lastSeq := some sequence }

/-- The value of LENS_CHANGE (R88). -/
def Lens.changeValue (x : Lens) : Nat := 512 * x.state.code + x.fraction

/-- Steps 1 to 8 of the evaluation of a record for its stream (R80). -/
def Stream.evaluated (z : Soiling) (st : Stream) (r : FrameRecord) : Stream :=
  match gateOf z r.luma r.pix with
  | .inconclusive =>
    { st with lens := { st.lens with inconclusive := satAdd top16 st.lens.inconclusive 1 }.recordEvaluation r.sequence }
  | .dark => { st with lens := { st.lens with dark := satAdd top16 st.lens.dark 1 }.recordEvaluation r.sequence }
  | .glare => { st with lens := { st.lens with glare := satAdd top16 st.lens.glare 1 }.recordEvaluation r.sequence }
  | .opened =>
    let tiles := evaluateTiles z st.cfg r st.tiles
    let lens := st.lens.judge z (countTiles st.cfg tiles Tile.past)
      (countTiles st.cfg tiles (fun x => decide (x.state = .blurred)))
    { st with tiles := tiles, lens := lens.recordEvaluation r.sequence }

/-- Apply the outcome of an evaluation; LENS_CHANGE is sent when the lens state changed (R80, R88). -/
def State.applyEvaluation (s : State) (r : FrameRecord) : State :=
  let st := s.stream r.stream
  let st' := st.evaluated s.evals.soiling r
  let s' := s.modStream r.stream (fun _ => st')
  if st'.lens.state = st.lens.state then s' else s'.notify .lensChange r.stream.val st'.lens.changeValue

/-- The idle engine begins the evaluation of the head record (R73, R79). -/
def Evaluator.begin (e : Evaluator) : Evaluator :=
  match e.current, e.queue with
  | none, r :: rs => { e with queue := rs, current := some ⟨r, false⟩ }
  | _, _ => e

/-- A frame record is offered to the queue (R71, R72). -/
def State.offerRecord (s : State) (r : FrameRecord) : State :=
  if s.evals.queue.length < Config.evalCapacity then
    s.modEvals (fun e => { e with queue := e.queue ++ [r] }.begin)
  else
    (s.modAcc r.stream (fun a => { a with skipped := satAdd top16 a.skipped 1 })).notify
      .evalSkipped r.stream.val r.sequence.toNat

/-- The records of a stream leave the queue (R73). -/
def Evaluator.remove (e : Evaluator) (i : Fin 16) : Evaluator :=
  { e with queue := e.queue.filter (fun r => !decide (r.stream = i)) }

/-- Whether the record in evaluation belongs to a stream (R182, R92). -/
def Evaluator.evaluating (e : Evaluator) (i : Fin 16) : Bool :=
  match e.current with
  | none => false
  | some x => decide (x.frame.stream = i)

/-- A changed exclusion that leaves fewer than 8 learned tiles makes the lens LEARNING (R91). -/
def State.relearnLens (s : State) (i : Fin 16) : State :=
  let st := s.stream i
  if countTiles st.cfg st.tiles Tile.past < 8 ∧ st.lens.state ≠ .learning then
    (s.modStream i (fun st => { st with lens := { st.lens with state := .learning } })).notify
      .lensChange i.val st.lens.fraction
  else s

/-- The tile table and lens record that RESET BASELINE leaves (R92). -/
def Stream.relearned (st : Stream) : Stream :=
  { st with
    tiles := Vector.replicate 48 Tile.reset
    lens := { st.lens with state := .learning, fraction := 0, counted := 0, blurred := 0 } }

/-- The reported state of a tile: 0 EXCLUDED, 1 LEARNING, 2 SHARP, 3 BLURRED (R77, section 11.7). -/
def reportedState (c : StreamConfig) (t : Fin 48) (x : Tile) : Nat :=
  if c.excludes t then 0
  else match x.state with
    | .learning => 1
    | .sharp => 2
    | .blurred => 3

/-- The eight bytes of one tile in a dump record (section 11.7). -/
def dumpTile (c : StreamConfig) (t : Fin 48) (x : Tile) : List Byte :=
  leBytes 1 (reportedState c t x) ++ leBytes 1 (if x.state = .learning then x.learned else x.persist)
    ++ leBytes 2 x.baseline ++ leBytes 2 x.lastE ++ leBytes 2 x.lastQ

/-- The 400 bytes of a stream's dump record (section 11.7). -/
def dumpRecord (i : Fin 16) (st : Stream) : List Byte :=
  leBytes 1 i.val ++ leBytes 1 st.lens.state.code ++ leBytes 2 st.lens.fraction ++ leBytes 1 st.lens.counted
    ++ leBytes 1 st.lens.blurred ++ leBytes 2 0 ++ leBytes 4 st.lens.evaluations ++ leBytes 2 st.lens.inconclusive
    ++ leBytes 2 ((st.lens.lastSeq.map BitVec.toNat).getD 0)
    ++ (List.finRange 48).flatMap (fun t => dumpTile st.cfg t st.tiles[t])

end Sys2Proof.Machine
end

