-- ==== Sys2Proof/Machine/Downstream.lean ====
section
/-! DEFINITION. The downstream port (R4): forming requests, matching answers; and the dump engine, which writes through
it (section 11.6). -/

namespace Sys2Proof.Machine

/-- Form a downstream request: it waits behind those formed before it (R4). -/
def Transit.form (t : Transit) (r : DownReq) : Transit := { t with downWaiting := t.downWaiting ++ [r] }

/-- Form an own read of one 16-byte block, or an own write, with an id the part chooses (R4, log entry 5). -/
def Transit.formOwn (t : Transit) (owner : DownOwner) (dir : Dir) (addr beats : Nat) (data : List WriteBeat) : Transit :=
  { t.form ⟨owner, dir, Config.ownId t.ownCount, addr, .incrementing, beats, data,
      match dir with
      | .read => beats
      | .write => 1⟩
    with ownCount := t.ownCount + 1 }

/-- The DRAM controller accepts the oldest waiting request (R4). -/
def Transit.issue (t : Transit) : Transit :=
  match t.downWaiting with
  | [] => t
  | r :: rs => { t with downWaiting := rs, downIssued := t.downIssued ++ [r] }

/-- One answer beat, or a response, for the n-th issued request of which p holds, oldest first: that request, and the
list with it counted down or removed (R4). -/
def answerDown (p : DownReq → Bool) : Nat → List DownReq → Option (DownReq × List DownReq)
  | _, [] => none
  | n, r :: rs =>
    if p r then
      match n with
      | 0 => some (r, if r.left ≤ 1 then rs else { r with left := r.left - 1 } :: rs)
      | m + 1 => (answerDown p m rs).map (fun x => (x.1, r :: x.2))
    else (answerDown p n rs).map (fun x => (x.1, r :: x.2))

/-- Change the read of a name. -/
def Transit.modRead (t : Transit) (key : Nat) (f : ReadTxn → ReadTxn) : Transit :=
  { t with reads := t.reads.map (fun x => if x.key = key then f x else x) }

/-- Change the write of a name. -/
def Transit.modWrite (t : Transit) (key : Nat) (f : WriteTxn → WriteTxn) : Transit :=
  { t with writes := t.writes.map (fun x => if x.key = key then f x else x) }

/-- The beats that carry a list of bytes, sixteen at a time, from beat `first`, every strobe set (R182). -/
def beatsOf (bytes : List Byte) (first count : Nat) : List WriteBeat :=
  (List.range count).map (fun k => ⟨BitVec.allOnes 16, lineOf ((bytes.drop (16 * (first + k))).take 16)⟩)

/-- Take the snapshot of the dump's stream and form its two writes (R182). -/
def State.dumpSnapshot (s : State) (d : Dump) : State :=
  let bytes := dumpRecord d.stream (s.stream d.stream)
  let addr := d.dest + Config.dumpRecordBytes * (d.stream.val - d.first)
  let t1 := s.transit.formOwn (.dump false) .write addr 16 (beatsOf bytes 0 16)
  let t2 := t1.formOwn (.dump false) .write (addr + 256) 9 (beatsOf bytes 16 9)
  { s with
    transit := t2
    port := { s.port with dump := some { d with snapshot := some bytes, awaiting := 2 } } }

/-- Begin the dump's stream: at once, or at the completion of its evaluation (R182). -/
def State.dumpBegin (s : State) (d : Dump) : State :=
  if s.evals.evaluating d.stream then
    s.modPort (fun p => { p with dump := some { d with snapshot := none, awaiting := 0 } })
  else s.dumpSnapshot d

/-- A dump that waits for the evaluation of its stream takes its snapshot (R182). -/
def State.dumpResume (s : State) (i : Fin 16) : State :=
  match s.port.dump with
  | none => s
  | some d => if d.stream = i ∧ d.snapshot = none then s.dumpSnapshot d else s

/-- Both writes of the dump's stream have been answered (R182). -/
def State.dumpProceed (s : State) (d : Dump) : State :=
  if d.error then
    (s.modPort (fun p => { p with dump := none })).notify .dumpFault d.stream.val d.written
  else
    match index? 16 (d.stream.val + 1) with
    | none => (s.modPort (fun p => { p with dump := none })).notify .dumpDone 0 (d.written + 1)
    | some next =>
      if d.stream.val < d.last then s.dumpBegin { d with stream := next, written := d.written + 1 }
      else (s.modPort (fun p => { p with dump := none })).notify .dumpDone 0 (d.written + 1)

/-- The response of a dump write of the running dump (R182). -/
def State.dumpAnswered (s : State) (resp : Resp) : State :=
  match s.port.dump with
  | none => s
  | some d =>
    let d' := { d with awaiting := d.awaiting - 1, error := d.error || decide (resp = .error) }
    let s' := s.modPort (fun p => { p with dump := some d' })
    if d'.awaiting = 0 then s'.dumpProceed d' else s'

/-- SOFT RESET abandons a running dump: no further write is issued, responses still to come are discarded (R179). -/
def State.dumpAbandon (s : State) : State :=
  { s with
    transit := { s.transit with
      downWaiting := s.transit.downWaiting.filter (fun r => match r.owner with
        | .dump _ => false
        | _ => true)
      downIssued := s.transit.downIssued.map (fun r => match r.owner with
        | .dump _ => { r with owner := .dump true }
        | _ => r) }
    port := { s.port with dump := none } }

/-- The completion event of an evaluation (R80, R93), with the dump that waits for it (R182). -/
def State.completeEvaluation (s : State) : State :=
  match s.evals.current with
  | none => s
  | some x =>
    let s1 := if x.discard then s else s.applyEvaluation x.frame
    let s2 := s1.modEvals (fun e => { e with current := none })
    (s2.dumpResume x.frame.stream).modEvals Evaluator.begin

end Sys2Proof.Machine
end

