-- ==== Sys2Proof/Machine/Slots.lean ====
section
/-! DEFINITION. The Slot Pool (chapter 3): lifecycle, free list, content lists, pins and holds. -/

namespace Sys2Proof.Machine

/-- FREE, unpinned and unheld: a slot that stands in the free list (R47). -/
def Slot.available (x : Slot) : Bool := decide (x.life = .free ∧ x.pins = 0 ∧ x.hold = none)

/-- The record of an existing slot as SET POOL makes it (section 3.2). -/
def Slot.fresh : Slot := ⟨.free, none, false, 0, 0, 0, 0, false, false, 0, none⟩

/-- A record cleared of its content (R48, R60): the lifecycle, pins, hold and owner as they were. -/
def Slot.clearContent (x : Slot) : Slot :=
  { x with valid := false, sigValid := false, partFrame := false, sequence := 0, frameSize := 0, stamp := 0, signature := 0 }

/-- Change one slot record; the free list follows (R47): a slot that becomes available joins the tail, one that stops
being available leaves from wherever it stands. A number that names no record changes nothing. -/
def SlotPool.update (p : SlotPool) (n : Nat) (f : Slot → Slot) : SlotPool :=
  match p.slots[n]? with
  | none => p
  | some x =>
    { p with
      slots := p.slots.set n (f x)
      free :=
        if x.available then (if (f x).available then p.free else p.free.erase n)
        else (if (f x).available then p.free ++ [n] else p.free) }

/-- The first byte of a slot (section 3.1). -/
def SlotPool.slotBase (p : SlotPool) (n : Nat) : Nat := p.base + n * p.size

/-- Whether an existing slot belongs to a stream (R46). -/
def SlotPool.owns (p : SlotPool) (i : Fin 16) (n : Nat) : Bool :=
  match p.slots[n]? with
  | none => false
  | some x => decide (x.owner = some i)

/-- The CURRENT slot of a stream (section 3.4, R50). -/
def SlotPool.currentOf (p : SlotPool) (i : Fin 16) : Option Nat :=
  p.slots.findIdx? (fun x => decide (x.life = .current ∧ x.owner = some i))

/-- The record a number names, or a FREE record with no content where it names none. -/
def SlotPool.record (p : SlotPool) (n : Nat) : Slot := (p.slots[n]?).getD Slot.fresh

/-- Every existing slot in slot-number order (R45, R59, R60). -/
def SlotPool.allNumbers (p : SlotPool) : List Nat := List.range p.slots.length

/-- The pool SET POOL makes (R45). -/
def SlotPool.rebuild (base review size count : Nat) : SlotPool where
  isSet := true
  base := base
  review := review
  size := size
  count := count
  slots := List.replicate count Slot.fresh
  free := List.range count
  content := Vector.replicate 16 []

/-- Take a slot for a frame start of stream i: the first entry of the free list that the stream owns (R48). -/
def SlotPool.allocate (p : SlotPool) (i : Fin 16) : Option (Nat × SlotPool) :=
  match p.free.find? (p.owns i) with
  | none => none
  | some n =>
    let p' := p.update n (fun x => { x.clearContent with life := .filling })
    some (n, { p' with content := modAt p'.content i (fun l => l.erase n) })

/-- Hand back the FILLING slot of an abandoned or lost frame (R51). -/
def SlotPool.handBack (p : SlotPool) (n : Nat) : SlotPool :=
  p.update n (fun x => { x.clearContent with life := .free })

/-- What an accepted frame gives its slot record (R36, R50). -/
def Slot.accept (x : Slot) (f : Filling) (now : Time) : Slot :=
  { x with
    life := .current
    valid := true
    sequence := f.sequence
    frameSize := f.frameSize
    stamp := now
    signature := if f.disordered then 0 else ~~~ f.signature
    sigValid := !f.disordered
    partFrame := f.partFrame }

/-- Demote a stream's previous CURRENT slot (R50). -/
def Slot.demote (x : Slot) : Slot := { x with life := if x.pins = 0 then .free else .retired }

/-- Accept the frame of stream i in slot f.slot and demote the CURRENT slot it had (R50). -/
def SlotPool.acceptFrame (p : SlotPool) (i : Fin 16) (f : Filling) (now : Time) : SlotPool :=
  let old := p.currentOf i
  let p1 := p.update f.slot (fun x => x.accept f now)
  let p2 := { p1 with content := modAt p1.content i (fun l => f.slot :: l.erase f.slot) }
  match old with
  | none => p2
  | some c => p2.update c Slot.demote

/-- Take one pin (R53). -/
def Slot.pin (x : Slot) : Slot := { x with pins := x.pins + 1 }

/-- Drop one pin; a RETIRED slot whose count reaches 0 becomes FREE (R53). -/
def Slot.unpin (x : Slot) : Slot :=
  { x with
    pins := x.pins - 1
    life := if x.pins - 1 = 0 ∧ x.life = .retired then .free else x.life }

def SlotPool.pin (p : SlotPool) (n : Nat) : SlotPool := p.update n Slot.pin
def SlotPool.unpin (p : SlotPool) (n : Nat) : SlotPool := p.update n Slot.unpin

/-- Take, or drop, a pin on each slot of a list, in order. -/
def SlotPool.pinAll (p : SlotPool) (l : List Nat) : SlotPool := l.foldl SlotPool.pin p
def SlotPool.unpinAll (p : SlotPool) (l : List Nat) : SlotPool := l.foldl SlotPool.unpin p

/-- Hold a slot for a group (R55). -/
def SlotPool.holdFor (p : SlotPool) (g n : Nat) : SlotPool := p.update n (fun x => { x with hold := some g })

/-- Unhold a slot (R55). -/
def SlotPool.unhold (p : SlotPool) (n : Nat) : SlotPool := p.update n (fun x => { x with hold := none })

/-- Unhold each slot of a list, in order (R155). -/
def SlotPool.unholdAll (p : SlotPool) (l : List Nat) : SlotPool := l.foldl SlotPool.unhold p

/-- The hold candidates of a stream: its content list less its held slots (R49). -/
def SlotPool.candidates (p : SlotPool) (i : Fin 16) : List Nat :=
  p.content[i].filter (fun n => decide ((p.record n).hold = none))

/-- The number of existing slots of a slot list that are unheld (R49). -/
def SlotPool.unheldCount (p : SlotPool) (slotList : List Nat) : Nat :=
  (slotList.filter (fun n => match p.slots[n]? with
    | none => false
    | some x => decide (x.hold = none))).length

/-- The stream whose slot list names a slot at COMMIT (R46). -/
def ownerAtCommit (streams : Vector Stream 16) (n : Nat) : Option (Fin 16) :=
  (List.finRange 16).find? (fun i =>
    !decide (streams[i].cfg.role = .none) && streams[i].cfg.slotList.contains n)

/-- A record as the drain completions of RETURN TO PASS and SOFT RESET set it (R60). -/
def Slot.emptied (x : Slot) : Slot := { x.clearContent with life := .free, pins := 0, hold := none }

/-- Every record emptied, the free list in slot-number order, the content lists empty (R60). -/
def SlotPool.emptied (p : SlotPool) : SlotPool :=
  { p with slots := p.slots.map Slot.emptied, free := p.allNumbers, content := Vector.replicate 16 [] }

/-- The drain completion of COMMIT: every record FREE and empty as the table of R61 has it, owning streams from the
slot lists, the free list in slot-number order, the content lists empty (R46, R59). -/
def SlotPool.committed (p : SlotPool) (streams : Vector Stream 16) : SlotPool :=
  { p with
    slots := p.slots.zipIdx.map (fun x => { x.1.emptied with owner := ownerAtCommit streams x.2 })
    free := p.allNumbers
    content := Vector.replicate 16 [] }

end Sys2Proof.Machine
end

