-- ==== Sys2Proof/Machine/Flags.lean ====
section
/-! DEFINITION. The flags the part computes from its state: which doors are open, which side a screen shows, where the
door view and the reverse view are active or placed, and a stream's overlay code (R108, R129 to R140). -/

namespace Sys2Proof.Machine

/-- The line record of door d. -/
def doorLine (d : Fin 12) : Fin 15 := ⟨d.val, by omega⟩

/-- Door d is open: its line is debounced high (section 8.1). -/
def LineMonitor.doorOpen (m : LineMonitor) (d : Fin 12) : Bool := m.lines[doorLine d].debounced

/-- The open doors, in ascending door number. -/
def LineMonitor.openDoors (m : LineMonitor) : List (Fin 12) := (List.finRange 12).filter m.doorOpen

/-- CAB_B is debounced high: the active cab is B (section 8.1). -/
def LineMonitor.cabB (m : LineMonitor) : Bool := m.lines[(12 : Fin 15)].debounced

/-- REVERSE is debounced high. -/
def LineMonitor.reversing (m : LineMonitor) : Bool := m.lines[(13 : Fin 15)].debounced

/-- The side of a door: 0 the lower side, 1 the upper side (R131). -/
def sideOf (d : Fin 12) : Fin 2 := if d.val < 6 then 0 else 1

/-- The other screen, or the other side. -/
def other (c : Fin 2) : Fin 2 := if c = 0 then 1 else 0

/-- The side a screen shows for the active cab (R131). -/
def LineMonitor.shownSide (m : LineMonitor) (c : Fin 2) : Fin 2 := if m.cabB then other c else c

/-- Whether a door of a side is open. -/
def LineMonitor.sideOpen (m : LineMonitor) (x : Fin 2) : Bool := m.openDoors.any (fun d => decide (sideOf d = x))

/-- Door view is active on a screen (R133). -/
def LineMonitor.doorViewActive (m : LineMonitor) (c : Fin 2) : Bool :=
  m.doorEnable && (m.sideOpen (m.shownSide c) || m.sides[m.shownSide c].timer.isSome)

/-- The reverse view is active (R139). -/
def LineMonitor.reverseActive (m : LineMonitor) : Bool := m.reverseEnable && m.reversing

/-- The screen the reverse view is placed on (R140). -/
def LineMonitor.reversePlacement (m : LineMonitor) : Option (Fin 2) :=
  if !m.reverseActive then none
  else if !m.doorViewActive m.preferred then some m.preferred
  else if !m.doorViewActive (other m.preferred) then some (other m.preferred)
  else none

/-- The reverse view is hidden: active and placed on no screen (R140). -/
def LineMonitor.reverseIsHidden (m : LineMonitor) : Bool := m.reverseActive && m.reversePlacement.isNone

/-- The stream whose role is DOOR with a door number (R17). -/
def doorStream (streams : Vector Stream 16) (d : Nat) : Option (Fin 16) :=
  (List.finRange 16).find? (fun i => decide (streams[i].cfg.role = .door ∧ streams[i].cfg.door = d))

/-- That stream, when its enabled flag is set (R135, R145). -/
def enabledDoorStream (streams : Vector Stream 16) (d : Nat) : Option (Fin 16) :=
  (List.finRange 16).find? (fun i =>
    decide (streams[i].cfg.role = .door ∧ streams[i].cfg.door = d ∧ streams[i].cfg.enabled = true))

/-- The stream of a role (R139). -/
def roleStream (streams : Vector Stream 16) (r : Role) : Option (Fin 16) :=
  (List.finRange 16).find? (fun i => decide (streams[i].cfg.role = r))

/-- The trailing-end stream for the active cab (R139). -/
def State.trailingStream (s : State) : Option (Fin 16) := roleStream s.streams (if s.lines.cabB then .endA else .endB)

/-- The overlay code of a pane for the state as it stands (R108). -/
def State.overlayOf (s : State) (p : Pane) : Overlay :=
  let st := s.stream p.stream
  if !st.cfg.enabled || decide (st.cap.freshness = .noSignal) || (s.pool.currentOf p.stream).isNone
      || decide (st.cfg.w < p.sx + p.sw ∨ st.cfg.h < p.sy + p.sh) then .noSignal
  else if st.cap.freshness = .stale then .stale
  else if p.badge && decide (st.lens.state = .soiled) then .badgeSoiled
  else if p.badge && decide (st.lens.state = .suspect) && s.evals.soiling.badge then .badgeSuspect
  else .none

end Sys2Proof.Machine
end

