-- ==== Sys2Proof/Machine/Holds.lean ====
section
/-! DEFINITION. The Hold Table (chapter 9): making holds, post frames, release, auto-release, discard. -/

namespace Sys2Proof.Machine

/-- The held total: the slots of all groups together (R148). -/
def HoldTable.total (t : HoldTable) : Nat := (t.groups.map (fun g => g.slots.length)).sum

/-- The lowest id of 1–8 that no group has (R148). -/
def HoldTable.freeId (t : HoldTable) : Option Nat :=
  (List.range' 1 Config.holdCapacity).find? (fun n => !t.groups.any (fun g => decide (g.id = n)))

/-- The group of an id. -/
def HoldTable.group? (t : HoldTable) (id : Nat) : Option Group := t.groups.find? (fun g => decide (g.id = id))

/-- What R150 decides: the cause code of a refusal, or the group id and the number of frames held. -/
inductive HoldDecision where
  | refused (cause : Nat)
  | made (id h : Nat)
  deriving DecidableEq, Repr

/-- The decision on a hold of stream i with a pre count (R150). -/
def State.decideHold (s : State) (i : Fin 16) (pre : Nat) : HoldDecision :=
  let candidates := s.pool.candidates i
  let unheld := s.pool.unheldCount (s.stream i).cfg.slotList
  let total := s.holds.total
  let h := min (min pre candidates.length) (min (Config.holdCapacity - total) (unheld - Config.keptUnheld))
  match s.holds.freeId with
  | none => .refused 1
  | some id =>
    if h = 0 then
      if candidates.isEmpty then .refused 2
      else if Config.holdCapacity ≤ total then .refused 3
      else .refused 4
    else .made id h

/-- Hold the slots of a list for a group (R55). -/
def SlotPool.holdAll (p : SlotPool) (g : Nat) (l : List Nat) : SlotPool := l.foldl (fun p n => p.holdFor g n) p

/-- Make a hold of stream i, or refuse it with its notice (R150). -/
def State.makeHold (s : State) (cause : Cause) (i : Fin 16) (pre post : Nat) : State :=
  match s.decideHold i pre with
  | .refused code => s.notify .holdRefused i.val code
  | .made id h =>
    let taken := (s.pool.candidates i).take h
    let s1 := (s.modPool (fun p => p.holdAll id taken)).modHolds (fun t =>
      { t with groups := t.groups ++ [⟨id, cause, i, s.time, taken.reverse, post⟩] })
    let s2 := s1.notify .holdMade id (256 * i.val + h)
    if h < pre then s2.notify .holdClamped id (pre - h) else s2

/-- Change the first group of which p holds. -/
def modFirstGroup (p : Group → Bool) (f : Group → Group) : List Group → List Group
  | [] => []
  | g :: gs => if p g then f g :: gs else g :: modFirstGroup p f gs

/-- A group of stream i that waits for post frames (R154). -/
def Group.waits (i : Fin 16) (g : Group) : Bool := decide (g.stream = i ∧ 0 < g.post)

/-- A group takes a post frame (R154). -/
def Group.takePost (g : Group) (n : Nat) : Group := { g with slots := g.slots ++ [n], post := g.post - 1 }

/-- The Hold Table is told of the new CURRENT slot n of stream i (R154). -/
def State.postFrame (s : State) (i : Fin 16) (n : Nat) : State :=
  match s.holds.groups.find? (Group.waits i) with
  | none => s
  | some g =>
    if s.holds.total < Config.holdCapacity
        ∧ Config.keptUnheld < s.pool.unheldCount (s.stream i).cfg.slotList then
      (s.modPool (fun p => p.holdFor g.id n)).modHolds (fun t =>
        { t with groups := modFirstGroup (Group.waits i) (fun g => g.takePost n) t.groups })
    else
      let cut := s.modHolds (fun t =>
        { t with groups := t.groups.map (fun g => if g.waits i then { g with post := 0 } else g) })
      (s.holds.groups.filter (Group.waits i)).foldl (fun s g => s.notify .holdClamped g.id g.post) cut

/-- Release a group: its slots unheld oldest first, the group removed, the mapping cleared if it names it (R155). -/
def State.releaseGroup (s : State) (g : Group) : State :=
  ((s.modPool (fun p => p.unholdAll g.slots)).modHolds (fun t =>
    { t with
      groups := t.groups.filter (fun x => !decide (x.id = g.id))
      mapping := match t.mapping with
        | none => none
        | some m => if m.group = g.id then none else some m })).notify .holdReleased g.id (256 + g.slots.length)

/-- Auto-release the slot of the mapping in force (R158). -/
def State.autoReleaseMapped (s : State) (m : Mapping) : State :=
  ((s.modPool (fun p => p.unhold m.slot)).modHolds (fun t =>
    { t with
      groups := (t.groups.map (fun g =>
          if g.id = m.group then { g with slots := g.slots.erase m.slot } else g)).filter
        (fun g => !(decide (g.id = m.group) && g.slots.isEmpty))
      mapping := none })).notify .holdReleased m.group (256 * 2 + 1)

/-- Discard every group, oldest first, with its notice, at the drain completion of RETURN TO PASS (R161). -/
def State.discardGroups (s : State) : State :=
  (s.holds.groups.foldl (fun s g => s.notify .holdReleased g.id (256 * 3 + g.slots.length)) s).modHolds
    (fun t => { t with groups := [], mapping := none })

/-- Discard every group without notice, at the drain completion of SOFT RESET (R162). -/
def HoldTable.softReset (t : HoldTable) : HoldTable := { t with groups := [], mapping := none }

end Sys2Proof.Machine
end

