-- ==== Sys2Proof/Machine/Lines.lean ====
section
/-! DEFINITION. The Line Monitor (chapter 8): sampling and debounce, side records, the hidden flag, DOOR_BLIND,
obstruction edges. -/

namespace Sys2Proof.Machine

/-- Recompute the hidden flag; REVERSE_HIDDEN is sent when it rises in ACTIVE, or in DRAINING entered from ACTIVE
(R141). -/
def State.recomputeHidden (s : State) : State :=
  let h := s.lines.reverseIsHidden
  let s' := s.modLines (fun m => { m with hidden := h })
  if h && !s.lines.hidden && s.isLive then s'.notify .reverseHidden s.lines.preferred.val s.lines.openDoors.length
  else s'

/-- DOOR_BLIND with a cause code, sent in ACTIVE or in DRAINING entered from ACTIVE only (R144). -/
def State.sendBlind (s : State) (door code : Nat) : State := if s.isLive then s.notify .doorBlind door code else s

/-- The test of DOOR_BLIND at the opening of door d: the first four lines of R144. -/
def State.testBlind (s : State) (d : Nat) : State :=
  match doorStream s.streams d with
  | none => s.sendBlind d 1
  | some i =>
    if !(s.stream i).cfg.enabled then s.sendBlind d 2
    else match (s.stream i).cap.freshness with
      | .noSignal => s.sendBlind d 3
      | .stale => s.sendBlind d 4
      | .live => s

/-- DOOR_BLIND of stream i when its door is open: the last two lines of R144. -/
def State.blindStream (s : State) (i : Fin 16) (code : Nat) : State :=
  match index? 12 (s.stream i).cfg.door with
  | none => s
  | some d =>
    if (s.stream i).cfg.role = .door ∧ s.lines.doorOpen d = true then s.sendBlind d.val code else s

/-- Add a door to a kept door list, in door-number order (R132). -/
def insertDoor (d : Nat) : List Nat → List Nat
  | [] => [d]
  | x :: xs => if d < x then d :: x :: xs else if d = x then x :: xs else x :: insertDoor d xs

/-- The side record of a door that opens (R132). -/
def Side.opened (x : Side) (d : Nat) : Side := { timer := none, kept := insertDoor d x.kept }

/-- The side record when the last open door of the side closes (R132). -/
def Side.closed (x : Side) (now : Time) (linger : Nat) : Side :=
  if 0 < linger then { x with timer := some (laterBy now linger) } else { x with kept := [] }

/-- Change one side record. -/
def State.modSide (s : State) (x : Fin 2) (f : Side → Side) : State :=
  s.modLines (fun m => { m with sides := modAt m.sides x f })

/-- Door d has opened (R130, R132, R144). -/
def State.doorOpens (s : State) (d : Fin 12) : State :=
  ((s.modSide (sideOf d) (fun x => x.opened d.val)).testBlind d.val).recomputeHidden

/-- Door d has closed (R130, R132). -/
def State.doorCloses (s : State) (d : Fin 12) : State :=
  (if s.lines.sideOpen (sideOf d) then s
   else s.modSide (sideOf d) (fun x => x.closed s.time s.lines.linger)).recomputeHidden

/-- The obstruction list: open doors with an enabled DOOR stream, in ascending door number (R145). -/
def State.obstructionList (s : State) : List (Fin 16) :=
  s.lines.openDoors.filterMap (fun d => enabledDoorStream s.streams d.val)

/-- A debounced rise of OBSTRUCT (R145, R152). -/
def State.obstructionEdge (s : State) : State :=
  let s' := s.modLines (fun m => { m with obstructions := satAdd top16 m.obstructions 1 })
  if s.isLive then
    s'.obstructionList.foldl (fun s i => s.makeHold .obstruction i s'.holds.pre s'.holds.post) s'
  else s'

/-- A debounced change of line l is acted on (R130). -/
def State.lineChanged (s : State) (l : Fin 15) (high : Bool) : State :=
  match index? 12 l.val with
  | some d => if high then s.doorOpens d else s.doorCloses d
  | none =>
    if l = 14 then (if high then s.obstructionEdge else s)
    else s.recomputeHidden

/-- One sample of a line record, and whether it makes a debounced change (R129). -/
def LineRecord.sample (r : LineRecord) (level : Bool) : LineRecord × Bool :=
  if level = r.debounced then ({ r with sampled := level, run := 0 }, false)
  else if 2 ≤ r.run then ({ sampled := level, debounced := level, run := 0 }, true)
  else ({ r with sampled := level, run := r.run + 1 }, false)

/-- Sample line l and act on its debounced change (R129, R130). -/
def State.sampleLine (s : State) (levels : BitVec 15) (l : Fin 15) : State :=
  let level := levels.getLsbD l.val
  let x := s.lines.lines[l].sample level
  let s' := s.modLines (fun m => { m with lines := modAt m.lines l (fun _ => x.1) })
  if x.2 then s'.lineChanged l level else s'

/-- The Line Monitor after SOFT RESET (R147): levels low silently, linger timers stopped; settings kept. -/
def LineMonitor.softReset (m : LineMonitor) : LineMonitor :=
  { m with
    lines := LineMonitor.reset.lines
    sides := LineMonitor.reset.sides
    hidden := false
    obstructions := 0 }

end Sys2Proof.Machine
end

