-- ==== Sys2Proof/Machine/Capture.lean ====
section
/-! DEFINITION. The Capture Tracker (chapter 2): taking, holding, steering and absorbing writes, frame start, tear and
completion, freshness, and the abandoned frame of a disabled stream. -/

namespace Sys2Proof.Machine

/-- The write of a name is absorbed: answered OKAY by the part (R31, R25). -/
def State.absorb (s : State) (key : Nat) : State :=
  s.modTransit (fun t => t.modWrite key (fun w => { w with service := .absorbed, response := some .okay }))

/-- A write is absorbed and counted as an orphan (R31). -/
def State.absorbOrphan (s : State) (i : Fin 16) (key : Nat) : State :=
  (s.absorb key).modCapture i (fun c => { c with orphans := satAdd top16 c.orphans 1 })

/-- A frame of stream i is lost with a cause code (R26). -/
def State.frameLost (s : State) (i : Fin 16) (cause : Nat) : State :=
  (s.notify .frameLost i.val cause).modCapture i (fun c => { c with lost := satAdd top16 c.lost 1 })

/-- The slot of the frame in progress is handed back and its statistics are dropped (R27, R34). -/
def State.abandonFrame (s : State) (i : Fin 16) (f : Filling) : State :=
  ((s.modPool (fun p => p.handBack f.slot)).modAcc i (fun a => a.dropTo .idle)).modCapture i
    (fun c => { c with fill := none })

/-- The strobes of a steered write: kept for frame bytes, cleared at and beyond the frame size (R28). -/
def steeredBeats (offset frameSize : Nat) (beats : List WriteBeat) : List WriteBeat :=
  (beatsAt offset beats).map (fun x => if x.1 < frameSize then x.2 else { x.2 with strobes := 0 })

/-- A frame byte of the write has its strobe clear (R30). -/
def hasClearStrobe (offset frameSize : Nat) (beats : List WriteBeat) : Bool :=
  (beatsAt offset beats).any (fun x => decide (x.1 < frameSize ∧ x.2.strobes ≠ BitVec.allOnes 16))

/-- The frame in progress after a steered write (R28, R29, R30). -/
def Filling.afterWrite (f : Filling) (w : CaptureWrite) : Filling :=
  let past := w.offset + 16 * w.beats.length
  let ordered := !f.disordered && decide (w.offset = f.offset)
  { f with
    offset := min past f.frameSize
    disordered := !ordered
    partFrame := f.partFrame || hasClearStrobe w.offset f.frameSize w.beats
    endMark := f.endMark || decide (f.frameSize ≤ past)
    signature := if ordered then crcWrite f.signature w.offset f.frameSize w.beats else f.signature }

/-- The redirected write sent downstream (R4, R28). -/
def steeredRequest (p : SlotPool) (i : Fin 16) (f : Filling) (w : CaptureWrite) : DownReq where
  owner := .steeredWrite w.key i
  dir := .write
  id := w.id
  addr := p.slotBase f.slot + w.offset
  burst := .incrementing
  beats := w.beats.length
  data := steeredBeats w.offset f.frameSize w.beats
  left := 1

/-- What a steered write does to the accumulator set: taken when in order, dropped at the first disorder (R28, R29). -/
def Accumulators.afterWrite (a : Accumulators) (f : Filling) (w : CaptureWrite) : Accumulators :=
  if f.disordered then a
  else if w.offset = f.offset then a.takeWrite w.offset f.frameSize w.beats
  else a.dropTo .dropped

/-- Steer a write of stream i into the slot of its frame f (R28, R29, R30). -/
def State.steer (s : State) (i : Fin 16) (f : Filling) (w : CaptureWrite) : State :=
  let s1 := s.modTransit (fun t =>
    (t.modWrite w.key (fun x => { x with service := .steered i })).form (steeredRequest s.pool i f w))
  let s2 := s1.modStream i (fun st =>
    { st with
      cap := { st.cap with fill := some (f.afterWrite w), awaiting := st.cap.awaiting + 1 }
      acc := st.acc.afterWrite f w })
  if !f.disordered && !decide (w.offset = f.offset) then s2.notify .frameDisordered i.val f.sequence.toNat else s2

/-- A 16-bit little-endian header field of the first beat of a start write (R21). -/
def headerField (beats : List WriteBeat) (at_ : Nat) : Seq :=
  match beats with
  | [] => 0
  | x :: _ => BitVec.ofNat 16 (leValue [strobedByte x at_, strobedByte x (at_ + 1)])

/-- The frame a start write begins in a slot (R24). -/
def Filling.begin (slot : Nat) (c : StreamConfig) (w : CaptureWrite) : Filling where
  slot := slot
  offset := 0
  frameSize := frameSizeOf c.w c.h
  identity := headerField w.beats 0
  sequence := headerField w.beats 2
  disordered := false
  partFrame := false
  damaged := false
  endMark := false
  signature := BitVec.allOnes 32

/-- A start write taken in IDLE (R24, R25, R62). -/
def State.frameStart (s : State) (i : Fin 16) (w : CaptureWrite) : State :=
  let cfg := (s.stream i).cfg
  let s1 := s.modAcc i (fun a => a.start cfg.w cfg.h)
  match s1.pool.allocate i with
  | none => (s1.absorb w.key).frameLost i 1
  | some (n, p) =>
    (({ s1 with pool := p } : State).modAcc i (fun a => { a with state := .collecting })).steer i (Filling.begin n cfg w) w

/-- The frame size that decides whether a write is a tail write (R21). -/
def Stream.frameSize (st : Stream) : Nat :=
  match st.cap.fill with
  | some f => f.frameSize
  | none => frameSizeOf st.cfg.w st.cfg.h

/-- Take one write of stream i under the rule that fits it (section 2.3, R24 to R31). -/
def State.takeWrite (s : State) (i : Fin 16) (w : CaptureWrite) : State :=
  let st := s.stream i
  if !st.cfg.enabled then s.absorbOrphan i w.key
  else
    match st.cap.fill with
    | none => if w.offset = 0 then s.frameStart i w else s.absorbOrphan i w.key
    | some f =>
      if w.offset = 0 then ((s.abandonFrame i f).frameLost i 2).frameStart i w
      else if f.frameSize ≤ w.offset then s.absorbOrphan i w.key
      else s.steer i f w

/-- The second and third cases of R22: the write waits for the awaiting count to reach 0. -/
def Capture.mustWait (c : Capture) (w : CaptureWrite) : Bool :=
  match c.fill with
  | none => false
  | some f => decide (0 < c.awaiting) && (f.endMark || decide (w.offset = 0))

/-- A write is handed to the Capture Tracker at its acceptance (R21, R22). -/
def State.handWrite (s : State) (i : Fin 16) (w : CaptureWrite) : State :=
  let st := s.stream i
  if st.cfg.enabled && (!st.cap.heldWrites.isEmpty || st.cap.mustWait w) then
    (s.modTransit (fun t => t.modWrite w.key (fun x => { x with service := .held i }))).modCapture i
      (fun c => { c with heldWrites := c.heldWrites ++ [w] })
  else s.takeWrite i w

/-- Take the writes of a held list that has been taken out of the record, from its head, until it is empty or the next must
wait, which with those behind it is put back (R23). -/
def State.takeHeld (i : Fin 16) : List CaptureWrite → State → State
  | [], s => s
  | w :: ws, s =>
    if (s.stream i).cap.mustWait w then s.modCapture i (fun c => { c with heldWrites := w :: ws })
    else State.takeHeld i ws (s.takeWrite i w)

/-- The sequence check of an accepted frame (R35). -/
def State.checkSequence (s : State) (i : Fin 16) (q : Seq) : State :=
  let s1 :=
    match (s.stream i).cap.lastSeq with
    | none => s
    | some last =>
      let d := (q - last - 1).toNat
      if d = 0 then s
      else if d < 32768 then
        (s.modCapture i (fun c => { c with missed := satAdd top16 c.missed d })).notify .sequenceGap i.val d
      else s.notify .sequenceRegress i.val q.toNat
  s1.modCapture i (fun c => { c with lastSeq := some q })

/-- Freshness at an acceptance (R39). -/
def State.refresh (s : State) (i : Fin 16) (q : Seq) : State :=
  let st := s.stream i
  let s1 := s.modCapture i (fun c =>
    { c with freshness := .live, timer := some (laterBy s.time st.cfg.ageLimit) })
  if st.cap.freshness = .live then s1 else s1.notify .streamLive i.val q.toNat

/-- The statistics of an accepted frame: a record offered when it was measured (R36 step 4, R70). -/
def State.offerStatistics (s : State) (i : Fin 16) (q : Seq) : State :=
  let a := (s.stream i).acc
  if a.state = .collecting then
    (s.modAcc i (fun a => a.offered q)).offerRecord (a.frameRecord i q)
  else s.modAcc i (fun a => { a with state := .idle })

/-- A frame is accepted, its five steps in order (R36). -/
def State.acceptFrame (s : State) (i : Fin 16) (f : Filling) : State :=
  let s1 := s.modPool (fun p => p.acceptFrame i f s.time)
  let s2 := ((s1.checkSequence i f.sequence).refresh i f.sequence).offerStatistics i f.sequence
  (s2.postFrame i f.slot).modCapture i (fun c => { c with fill := none })

/-- A frame completes: lost as DAMAGED, lost as IDENTITY, or accepted (R33, R34, R36). -/
def State.completeFrame (s : State) (i : Fin 16) (f : Filling) : State :=
  if f.damaged then (s.abandonFrame i f).frameLost i 3
  else if f.identity ≠ (s.stream i).cfg.identity then (s.abandonFrame i f).frameLost i 4
  else s.acceptFrame i f

/-- The awaiting count of stream i has reached 0 (R23, R32, R20). -/
def State.settle (s : State) (i : Fin 16) : State :=
  let c := (s.stream i).cap
  match c.abandoned with
  | some n => (s.modPool (fun p => p.handBack n)).modCapture i (fun c => { c with abandoned := none })
  | none =>
    let s0 := s.modCapture i (fun c => { c with heldWrites := [] })
    let s1 :=
      match c.fill with
      | none => s0
      | some f => if f.endMark then s0.completeFrame i f else s0
    State.takeHeld i c.heldWrites s1

/-- A downstream ERROR damages the frame in progress; the frame of a disabled stream takes no mark (R32). -/
def Capture.damage (c : Capture) : Capture :=
  if c.abandoned.isSome then c
  else { c with fill := c.fill.map (fun f => { f with damaged := true }) }

/-- The downstream response of a steered write of stream i (R32). -/
def State.steeredAnswered (s : State) (i : Fin 16) (key : Nat) (resp : Resp) : State :=
  let s1 := s.modTransit (fun t => t.modWrite key (fun w => { w with response := some resp }))
  let s2 := s1.modCapture i (fun c =>
    { (if resp = .error then c.damage else c) with awaiting := c.awaiting - 1 })
  if (s2.stream i).cap.awaiting = 0 then s2.settle i else s2

/-- What DISABLE STREAM does to the running part in ACTIVE (R20): the frame abandoned, held writes absorbed, queued
records removed, freshness NO_SIGNAL. -/
def State.stopCapture (s : State) (i : Fin 16) : State :=
  let c := (s.stream i).cap
  let s1 :=
    match c.fill with
    | none => s
    | some f =>
      if c.awaiting = 0 then s.abandonFrame i f
      else (s.modAcc i (fun a => a.dropTo .idle)).modCapture i
        (fun c => { c with fill := none, abandoned := some f.slot })
  let s2 := c.heldWrites.foldl (fun s w => s.absorbOrphan i w.key) s1
  (s2.modCapture i (fun c => { c with heldWrites := [], freshness := .noSignal, timer := none })).modEvals
    (fun e => e.remove i)

/-- The running part as the drain completions set it (R42); the three counts are kept. -/
def Capture.modeChange (c : Capture) : Capture :=
  { c with
    fill := none
    awaiting := 0
    heldWrites := []
    abandoned := none
    freshness := .noSignal
    timer := none
    lastSeq := none }

/-- The running part after SOFT RESET (R44). -/
def Capture.softReset (c : Capture) : Capture := { c.modeChange with missed := 0, orphans := 0, lost := 0 }

/-- The running part ENABLE STREAM sets in ACTIVE (R19). -/
def Capture.enable (c : Capture) : Capture :=
  { c with fill := none, freshness := .noSignal, timer := none, lastSeq := none }

end Sys2Proof.Machine
end

