-- ==== Sys2Proof/Machine/Views.lean ====
section
/-! DEFINITION. The Composition Engine (chapters 6 and 7) and the generated views of the Line Monitor (sections 8.4 and
8.6): view formation, the latch, pixel mapping, overlays, gather reads, close, restart and unlatched reads. -/

namespace Sys2Proof.Machine

/-! ### Generated views (R135 to R139) -/

/-- Columns and rows of the door grid (R136). -/
def gridOf (n : Nat) : Nat × Nat :=
  if n ≤ 1 then (1, 1) else if n = 2 then (2, 1) else if n ≤ 4 then (2, 2) else (3, 2)

/-- A fitted crop (R137): the decimation and the crop rectangle. -/
structure Fit where
  k  : Nat
  sx : Nat
  sy : Nat
  sw : Nat
  sh : Nat
  deriving DecidableEq, Repr

/-- The whole frame at decimation k, trimmed to multiples of k (R137). -/
def fitWhole (k w h : Nat) : Fit := ⟨k, 0, 0, w - w % k, h - h % k⟩

/-- The centre of a frame that does not fit even at k = 4 (R137). -/
def fitCentre (cw ch w h : Nat) : Fit :=
  let sw := min (w - w % 4) (4 * cw)
  let sh := min (h - h % 4) (4 * ch)
  ⟨4, (w - sw) / 2, (h - sh) / 2, sw, sh⟩

/-- Fit a frame of W × H to a cell of cw × ch (R137). -/
def fitFrame (cw ch w h : Nat) : Fit :=
  match [1, 2, 3, 4].find? (fun k => decide (w ≤ k * cw ∧ h ≤ k * ch)) with
  | some k => fitWhole k w h
  | none => fitCentre cw ch w h

/-- The pane of a stream in cell j of a c × r grid on a W_s × H_s screen (R136, R138). -/
def cellPane (ws hs c r j : Nat) (i : Fin 16) (cfg : StreamConfig) : Pane :=
  let cw := ws / c
  let ch := hs / r
  let f := fitFrame cw ch cfg.w cfg.h
  { stream := i, sx := f.sx, sy := f.sy, sw := f.sw, sh := f.sh, k := f.k
    dx := (j % c) * cw + (cw - f.sw / f.k) / 2
    dy := (j / c) * ch + (ch - f.sh / f.k) / 2
    mirror := cfg.mirror, badge := true }

/-- The streams of the doors shown on a screen, in the order of R131 (R135). -/
def State.shownStreams (s : State) (c : Fin 2) : List (Fin 16) :=
  let x := s.lines.shownSide c
  let doors : List Nat :=
    if s.lines.sideOpen x then (s.lines.openDoors.filter (fun d => decide (sideOf d = x))).map Fin.val
    else s.lines.sides[x].kept
  (if s.lines.cabB then doors.reverse else doors).filterMap (fun d => enabledDoorStream s.streams d)

/-- The generated door view of a screen (R135 to R138). -/
def State.doorView (s : State) (c : Fin 2) : KeptView :=
  let shown := s.shownStreams c
  let n := shown.length
  let g := gridOf n
  { kind := .door
    bg := if n = 0 then s.comp.layouts[(0 : Fin 16)].bg else Colour.black
    panes := shown.zipIdx.map (fun x =>
      cellPane (s.screen c).w (s.screen c).h g.1 g.2 x.2 x.1 (s.stream x.1).cfg) }

/-- The generated reverse view of a screen (R139). -/
def State.reverseView (s : State) (c : Fin 2) : KeptView where
  kind := .reverse
  bg := Colour.black
  panes :=
    match s.trailingStream with
    | none => []
    | some i => [cellPane (s.screen c).w (s.screen c).h 1 1 0 i (s.stream i).cfg]

/-- The requested layout of a screen as a view (R107). -/
def State.requestedView (s : State) (c : Fin 2) : KeptView :=
  let l := s.comp.layouts[(s.screen c).requested]
  { kind := .requested, bg := l.bg, panes := l.panes }

/-- The view a latch of a screen takes, by the precedence of R106 (R106, R107, R143). -/
def State.viewAtLatch (s : State) (c : Fin 2) : KeptView :=
  if s.lines.doorViewActive c then s.doorView c
  else if s.lines.reversePlacement = some c then s.reverseView c
  else s.requestedView c

/-- A pane with the W and H, the overlay code and the slot the state gives it now (R107 to R109, R115). -/
def State.resolvePane (s : State) (p : Pane) : ViewPane :=
  let o := s.overlayOf p
  { pane := p
    w := (s.stream p.stream).cfg.w
    h := (s.stream p.stream).cfg.h
    slot := if o = .noSignal then none else s.pool.currentOf p.stream
    overlay := o }

/-! ### One pixel (R101 to R103, R120 to R125) -/

/-- Width and height of a pane on the screen (section 6.2). -/
def Pane.dw (p : Pane) : Nat := p.sw / p.k
def Pane.dh (p : Pane) : Nat := p.sh / p.k

/-- Whether a pane covers a screen pixel (R102). -/
def Pane.covers (p : Pane) (x y : Nat) : Bool :=
  decide (p.dx ≤ x ∧ x < p.dx + p.dw ∧ p.dy ≤ y ∧ y < p.dy + p.dh)

/-- The last covering pane of a pixel, with its place in the list (R102). -/
def lastCovering (ps : List ViewPane) (x y : Nat) : Option (ViewPane × Nat) :=
  ps.zipIdx.reverse.find? (fun p => p.1.pane.covers x y)

/-- What supplies a pixel's colour (R120): a colour, or a source pixel in a block of a slot, dimmed or not. -/
inductive PixelSource where
  | flat (c : Colour)
  | source (pane slot block within : Nat) (dim : Bool)
  deriving DecidableEq, Repr

/-- The checker of NO_SIGNAL (R122). -/
def checker (x y : Nat) : Colour := if (x / 8 + y / 8) % 2 = 0 then Colour.black else ⟨32, 32, 32⟩

/-- The stripe colour of STALE (R123). -/
def stripeColour : Colour := ⟨128, 128, 128⟩

/-- The fault colour (R111). -/
def faultColour : Colour := ⟨255, 0, 255⟩

/-- The fill of a badge (R125). -/
def amber : Colour := ⟨255, 160, 0⟩
def yellow : Colour := ⟨255, 230, 0⟩

/-- Whether a pixel covered by a pane lies in its badge square (R124). -/
def Pane.inBadge (p : Pane) (x y : Nat) : Bool :=
  decide (p.dx + 4 ≤ x ∧ x ≤ p.dx + 27 ∧ p.dy + 4 ≤ y ∧ y ≤ p.dy + 27)

/-- The colour of a badge pixel (R125). -/
def badgeColour (p : Pane) (fill : Colour) (x y : Nat) : Colour :=
  let bx := x - (p.dx + 4)
  let byy := y - (p.dy + 4)
  if bx < 2 ∨ 22 ≤ bx ∨ byy < 2 ∨ 22 ≤ byy then Colour.black else fill

/-- The source column and row of a covered pixel (R103). -/
def Pane.sourceColumn (p : Pane) (x : Nat) : Nat :=
  p.sx + p.k * (if p.mirror then p.dw - 1 - (x - p.dx) else x - p.dx)
def Pane.sourceRow (p : Pane) (y : Nat) : Nat := p.sy + p.k * (y - p.dy)

/-- The offset of a source pixel in its slot (R103). -/
def ViewPane.sourceOffset (v : ViewPane) (x y : Nat) : Nat :=
  Config.headerBytes + 4 * (v.w * v.pane.sourceRow y + v.pane.sourceColumn x)

/-- The source of a covered pixel that is no pattern pixel (R103, R104). -/
def ViewPane.sourcePixel (v : ViewPane) (j x y : Nat) (dim : Bool) : PixelSource :=
  match v.slot with
  | none => .flat Colour.black
  | some n => .source j n (v.sourceOffset x y / 16 * 16) (v.sourceOffset x y % 16) dim

/-- Step 2 of R120 for a pixel whose last covering pane is v, standing at place j (R121 to R125). -/
def ViewPane.pixel (v : ViewPane) (j x y : Nat) : PixelSource :=
  match v.overlay with
  | .none => v.sourcePixel j x y false
  | .noSignal => .flat (checker x y)
  | .stale => if (x + y) % 16 < 3 then .flat stripeColour else v.sourcePixel j x y true
  | .badgeSuspect =>
    if v.pane.inBadge x y then .flat (badgeColour v.pane yellow x y) else v.sourcePixel j x y false
  | .badgeSoiled =>
    if v.pane.inBadge x y then .flat (badgeColour v.pane amber x y) else v.sourcePixel j x y false

/-- Steps 1 and 2 of R120 for one screen pixel. -/
def pixelOf (bg : Colour) (ps : List ViewPane) (x y : Nat) : PixelSource :=
  match lastCovering ps x y with
  | none => .flat bg
  | some (v, j) => v.pixel j x y

/-- The screen pixels of an aperture read, in order (R101). -/
def readPixels (width offset beats : Nat) : List (Nat × Nat) :=
  (List.range (4 * beats)).map (fun i => ((offset / 4 + i) % width, (offset / 4 + i) / width))

/-- The sources of the pixels of a screen read (R120). -/
def ScreenRead.sources (r : ScreenRead) (beats : Nat) : List PixelSource :=
  (readPixels r.width r.offset beats).map (fun p => pixelOf r.bg r.panes p.1 p.2)

/-- The blocks a screen read needs, each once, in the order of first need (R104, log entry 6). -/
def neededBlocks (src : List PixelSource) : List GatherBlock :=
  (distinct (src.filterMap (fun x => match x with
    | .flat _ => none
    | .source _ n b _ _ => some (n, b)))).map (fun x => ⟨x.1, x.2, none⟩)

/-- The slots a read uses, in the order of the first pane of the view that uses each (R104, R115). -/
def usedSlots (panes : List ViewPane) (src : List PixelSource) : List Nat :=
  distinct (panes.zipIdx.filterMap (fun v =>
    if src.any (fun x => match x with
      | .flat _ => false
      | .source j _ _ _ _ => decide (j = v.2)) then v.1.slot else none))

/-- The block a screen read holds for a place in a slot. -/
def ScreenRead.block? (r : ScreenRead) (slot offset : Nat) : Option GatherBlock :=
  r.blocks.find? (fun b => decide (b.slot = slot ∧ b.offset = offset))

/-- The colour of a pixel from its source, once every block has come back (R111, R120, R123). -/
def ScreenRead.colour (r : ScreenRead) : PixelSource → Colour
  | .flat c => c
  | .source _ slot block within dim =>
    match (r.block? slot block).bind GatherBlock.got with
    | none => Colour.black
    | some g =>
      if g.resp = .error then faultColour
      else
        let part (n : Nat) : Byte := if dim then lineByte g.data (within + n) >>> 1 else lineByte g.data (within + n)
        ⟨part 0, part 1, part 2⟩

/-- The four bytes of a returned pixel (R101). -/
def Colour.bytes (c : Colour) : List Byte := [c.r, c.g, c.b, 0]

/-- The beats of a screen read's answer: every beat OKAY (R101, R104, R111). -/
def ScreenRead.answer (r : ScreenRead) (beats : Nat) : List ReadBeat :=
  let bytes := (r.sources beats).flatMap (fun x => (r.colour x).bytes)
  (List.range beats).map (fun b => ⟨lineOf ((bytes.drop (16 * b)).take 16), .okay⟩)

/-- Every block the read needs has come back (R104). -/
def ScreenRead.complete (r : ScreenRead) : Bool := r.blocks.all (fun b => b.got.isSome)

/-! ### Serving reads (R104 to R115) -/

/-- Form the gather reads of a screen read: one block each, in the order of first need (R104, log entry 6). -/
def Transit.formGathers (t : Transit) (p : SlotPool) (key : Nat) (blocks : List GatherBlock) : Transit :=
  blocks.foldl (fun t b => t.formOwn (.gather key b.slot b.offset) .read (p.slotBase b.slot + b.offset) 1 []) t

/-- Append an accepted read to its order list (R2, R3). -/
def Transit.addRead (t : Transit) (q : ReadReq) (service : ReadService) (beats : List ReadBeat) : Transit :=
  { t with reads := t.reads ++ [⟨t.nextKey, q, service, beats⟩], nextKey := t.nextKey + 1 }

/-- Serve a screen read from a view, with the gather reads it needs (R104). -/
def State.serveScreen (s : State) (q : ReadReq) (r : ScreenRead) : State :=
  let r' := { r with blocks := neededBlocks (r.sources q.beats) }
  s.modTransit (fun t => (t.addRead q (.screen r') []).formGathers s.pool t.nextKey r'.blocks)

/-- The slots of the panes of a frame that have one, in pane-list order (R109, R112). -/
def ScreenFrame.slots (f : ScreenFrame) : List Nat := f.panes.filterMap ViewPane.slot

/-- Close a screen frame: its pane pins are dropped in pane-list order and the screen has no frame (R112, R118). -/
def State.closeFrame (s : State) (c : Fin 2) (f : ScreenFrame) : State :=
  (s.modPool (fun p => p.unpinAll f.slots)).modScreen c (fun x => { x with frame := none })

/-- A frame that has seen its end or has expired closes when no read of it is in flight (R112). -/
def State.closeIfServed (s : State) (c : Fin 2) : State :=
  match (s.screen c).frame with
  | none => s
  | some f => if (f.endSeen || f.expired) && decide (f.inFlight = 0) then s.closeFrame c f else s

/-- Whether a read belongs to the frame of a screen. -/
def ReadTxn.inFrame (c : Fin 2) (x : ReadTxn) : Bool :=
  match x.service with
  | .screen r => decide (r.screen = c) && r.latched
  | _ => false

/-- A read of an ended frame becomes an unlatched read that pins the slots it uses (R113). -/
def ReadTxn.carryOver (x : ReadTxn) : ReadTxn :=
  match x.service with
  | .screen r =>
    { x with service := .screen { r with latched := false, pins := usedSlots r.panes (r.sources x.req.beats) } }
  | _ => x

/-- The pins of an unlatched read. -/
def ReadTxn.pins (x : ReadTxn) : List Nat :=
  match x.service with
  | .screen r => r.pins
  | _ => []

/-- A frame is ended by restart (R113). -/
def State.restartFrame (s : State) (c : Fin 2) : State :=
  match (s.screen c).frame with
  | none => s
  | some f =>
    let carried := s.transit.reads.filter (ReadTxn.inFrame c)
    let s1 := s.modTransit (fun t =>
      { t with reads := t.reads.map (fun x => if x.inFrame c then x.carryOver else x) })
    let s2 := s1.modPool (fun p => carried.foldl (fun p x => p.pinAll x.carryOver.pins) p)
    let s3 := (s2.modPool (fun p => p.unpinAll f.slots))
    s3.modScreen c (fun x =>
      { x with frame := none, unlatched := x.unlatched + carried.length, restarts := satAdd top16 x.restarts 1 })

/-- The code of a view kind (R110). -/
def ViewKind.code : ViewKind → Nat
  | .requested => 0
  | .door => 1
  | .reverse => 2

/-- Open a new screen frame: the latch (R106 to R110). -/
def State.latch (s : State) (c : Fin 2) : State :=
  let v := s.viewAtLatch c
  let f : ScreenFrame := {
    expired := false
    kind := v.kind
    layout := if v.kind = .requested then some (s.screen c).requested else none
    bg := v.bg
    panes := v.panes.map s.resolvePane
    latched := s.time
    endSeen := false
    inFlight := 0
    accepted := 0
    timer := some (laterBy s.time (s.screen c).timeout) }
  let s1 := (s.modPool (fun p => p.pinAll f.slots)).modScreen c (fun x =>
    { x with frame := some f, kept := some v, prevKind := v.kind, latches := satAdd top32 x.latches 1 })
  if v.kind = (s.screen c).prevKind then s1 else s1.notify .viewChange c.val v.kind.code

/-- The offset of the last aperture byte lies in the bytes a read covers (R112). -/
def coversEnd (x : Screen) (offset beats : Nat) : Bool :=
  decide (offset < 4 * x.w * x.h ∧ 4 * x.w * x.h ≤ offset + 16 * beats)

/-- A read that belongs to the screen's open frame (R105, R106, R112). -/
def State.serveLatched (s : State) (c : Fin 2) (f : ScreenFrame) (q : ReadReq) (offset : Nat) : State :=
  let sc := s.screen c
  let ends := coversEnd sc offset q.beats
  let s1 := s.modScreen c (fun x =>
    { x with frame := some { f with
        inFlight := f.inFlight + 1
        accepted := satAdd top16 f.accepted 1
        endSeen := f.endSeen || ends
        timer := if ends then none else f.timer } })
  s1.serveScreen q
    { screen := c, offset := offset, width := sc.w, bg := f.bg, panes := f.panes, blocks := [], latched := true, pins := [] }

/-- An unlatched read (R115). -/
def State.serveUnlatched (s : State) (c : Fin 2) (q : ReadReq) (offset : Nat) : State :=
  let sc := s.screen c
  let panes := match sc.kept with
    | none => []
    | some v => v.panes.map s.resolvePane
  let bg := match sc.kept with
    | none => Colour.black
    | some v => v.bg
  let r : ScreenRead :=
    { screen := c, offset := offset, width := sc.w, bg := bg, panes := panes, blocks := [], latched := false, pins := [] }
  let pins := usedSlots panes (r.sources q.beats)
  let s1 := (s.modPool (fun p => p.pinAll pins)).modScreen c (fun x =>
    { x with unlatched := x.unlatched + 1, unlatchedReads := satAdd top32 x.unlatchedReads 1 })
  s1.serveScreen q { r with pins := pins }

/-- A read of a screen aperture, by the cases of R105. -/
def State.readScreen (s : State) (c : Fin 2) (q : ReadReq) (offset : Nat) : State :=
  if offset = 0 then
    let s1 := (s.restartFrame c).latch c
    match (s1.screen c).frame with
    | none => s1
    | some f => s1.serveLatched c f q offset
  else
    match (s.screen c).frame with
    | none => s.serveUnlatched c q offset
    | some f => if f.expired then s.serveUnlatched c q offset else s.serveLatched c f q offset

/-- A block of a screen read has come back (R104, R111). -/
def ScreenRead.deliver (r : ScreenRead) (slot offset : Nat) (beat : ReadBeat) : ScreenRead :=
  { r with blocks := r.blocks.map (fun b =>
      if b.slot = slot ∧ b.offset = offset then { b with got := some beat } else b) }

/-- A gather beat answered ERROR: the notice and the count (R111). -/
def State.gatherFault (s : State) (c : Fin 2) (slot : Nat) : State :=
  (s.notify .gatherFault c.val slot).modScreen c (fun x => { x with faults := satAdd top16 x.faults 1 })

/-- The last beat of a screen read has been returned (R112, R115). -/
def State.screenReturned (s : State) (r : ScreenRead) : State :=
  if r.latched then
    (s.modScreen r.screen (fun x =>
      { x with frame := x.frame.map (fun f => { f with inFlight := f.inFlight - 1 }) })).closeIfServed r.screen
  else
    (s.modPool (fun p => p.unpinAll r.pins)).modScreen r.screen (fun x => { x with unlatched := x.unlatched - 1 })

/-- The screens at the drain completions of RETURN TO PASS and SOFT RESET: any frame closed, its pins dropped (R118). -/
def State.closeAnyFrame (s : State) (c : Fin 2) : State :=
  match (s.screen c).frame with
  | none => s
  | some f => s.closeFrame c f

/-- The kept view absent and the previous view kind REQUESTED (R116, R110, R118). -/
def Screen.modeChange (x : Screen) : Screen := { x with frame := none, kept := none, prevKind := .requested }

/-- The screen after SOFT RESET (R117, R118). -/
def Screen.softReset (x : Screen) : Screen :=
  { x.modeChange with latches := 0, restarts := 0, timeouts := 0, unlatchedReads := 0, faults := 0 }

end Sys2Proof.Machine
end

