-- ==== Sys2Proof/Machine/Windows.lean ====
section
/-! DEFINITION. The window map (section 1.2), the checks on it (R6, R178, R181), and the bytes a transaction covers
(R1). -/

namespace Sys2Proof.Machine

/-- The code of a window (R178). -/
def WindowKind.code : WindowKind → Nat
  | .capture i => i.val
  | .screen c => 16 + c.val
  | .review => 18
  | .pool => 19

/-- One above the last byte of a window. -/
def Window.stop (w : Window) : Nat := w.base + w.extent

/-- Round up to a multiple of 4,096 (section 1.2). -/
def roundUp4K (n : Nat) : Nat := (n + 4095) / 4096 * 4096

/-- The capture window of a stream (section 1.2). -/
def captureWindow (i : Fin 16) (c : StreamConfig) : Window := ⟨.capture i, c.base, roundUp4K (frameSizeOf c.w c.h)⟩

/-- The windows the configuration gives, in the order of their codes (R5). -/
def State.buildWindows (s : State) : List Window :=
  ((List.finRange 16).filterMap (fun i =>
      if s.streams[i].cfg.role = .none then none else some (captureWindow i s.streams[i].cfg)))
    ++ ((List.finRange 2).filterMap (fun c =>
      let x := s.comp.screens[c]
      if x.isSet then some ⟨.screen c, x.base, 4 * x.w * x.h⟩ else none))
    ++ (if s.pool.isSet then
        [⟨.review, s.pool.review, s.pool.size⟩, ⟨.pool, s.pool.base, s.pool.size * s.pool.count⟩]
      else [])

/-- Whether a window holds an address. -/
def Window.holds (w : Window) (a : Nat) : Bool := decide (w.base ≤ a ∧ a < w.stop)

/-- Whether the bytes from `first` up to but not including `stop` share a byte with a window. -/
def Window.meets (w : Window) (first stop : Nat) : Bool := decide (max w.base first < min w.stop stop)

/-- Whether two windows share a byte (R6). -/
def Window.overlaps (v w : Window) : Bool := v.meets w.base w.stop

/-- The first byte a transaction covers, and one above its last (R1). -/
def covered (addr : Nat) (burst : Burst) (beats : Nat) : Nat × Nat :=
  match burst with
  | .incrementing => (addr, addr / 16 * 16 + 16 * beats)
  | .wrapping => (addr / (16 * beats) * (16 * beats), addr / (16 * beats) * (16 * beats) + 16 * beats)

/-- What the three tests of section 1.3 make of a transaction, and the block it goes to (R7 to R10). -/
inductive Decoded where
  | split
  | guardHit (slot : Nat)
  | refused
  | plain
  | capture (stream : Fin 16) (offset : Nat)
  | screen (screen : Fin 2) (offset : Nat)
  | review (offset : Nat)
  deriving DecidableEq, Repr

/-- The window that contains an address, or none for PLAIN (R7). -/
def regionOf (ws : List Window) (a : Nat) : Option Window := ws.find? (fun w => w.holds a)

/-- Whether every covered byte lies in the region of the start address (R7). -/
def staysInRegion (ws : List Window) (region : Option Window) (c : Nat × Nat) : Bool :=
  match region with
  | some w => decide (w.base ≤ c.1 ∧ c.2 ≤ w.stop)
  | none => decide (c.2 ≤ Config.addrEnd) && !ws.any (fun w => w.meets c.1 c.2)

/-- The decode of a transaction in ACTIVE (R7, R8, R9, R10). -/
def decodeAccess (ws : List Window) (slotSize : Nat) (addr : Nat) (burst : Burst) (beats : Nat) : Decoded :=
  let region := regionOf ws addr
  if !staysInRegion ws region (covered addr burst beats) then .split
  else
    match region with
    | none => .plain
    | some w =>
      match w.kind with
      | .pool => .guardHit ((addr - w.base) / slotSize)
      | .capture i => if burst = .wrapping ∨ addr % 16 ≠ 0 then .refused else .capture i (addr - w.base)
      | .screen c => if burst = .wrapping ∨ addr % 16 ≠ 0 then .refused else .screen c (addr - w.base)
      | .review => if burst = .wrapping ∨ addr % 16 ≠ 0 then .refused else .review (addr - w.base)

/-- The committed window of a stream (R5, R19). -/
def windowOfStream (ws : List Window) (i : Fin 16) : Option Window :=
  ws.find? (fun w => decide (w.kind = .capture i))

end Sys2Proof.Machine
end

