-- ==== Sys2Proof/Machine/Drain.lean ====
section
/-! DEFINITION. The device mode: entering DRAINING (R13), drain completion (R15), and the assertion and release of
RESET_N (R16, R184). -/

namespace Sys2Proof.Machine

/-- A command is taken that enters DRAINING; its response becomes PENDING (R13, R173). -/
def State.enterDraining (s : State) (change : Change) : State :=
  { s with
    transit := { s.transit with mode := .draining, change := change, drainedFrom := s.transit.mode }
    port := { s.port with buffer := .pending change } }

/-- The new mode is set, the pending change becomes none, the command ends with DONE (R15). -/
def State.finishDrain (s : State) (mode : Mode) (windows : List Window) : State :=
  { s with
    transit := { s.transit with mode := mode, change := .none, windows := windows }
    port := { s.port with buffer := .ready .done [] } }

/-- The stream records at the drain completions of COMMIT and RETURN TO PASS (R42, R43, R75). -/
def Stream.modeChange (st : Stream) : Stream := { st with cap := st.cap.modeChange, acc := st.acc.modeChange }

/-- The stream records after SOFT RESET (R44, R75, R96). -/
def Stream.softReset (st : Stream) : Stream :=
  { st with
    cap := st.cap.softReset
    acc := st.acc.softReset
    tiles := Vector.replicate 48 Tile.reset
    lens := Lens.reset }

/-- The drain completion of COMMIT (R5, R42, R59, R75, R118, R147, R178). -/
def State.completeCommit (s : State) : State :=
  let s1 : State := { s with
    streams := mapAll Stream.modeChange s.streams
    pool := s.pool.committed s.streams
    evals := { s.evals with queue := [] }
    comp := { s.comp with screens := mapAll Screen.modeChange s.comp.screens } }
  s1.recomputeHidden.finishDrain .active s.buildWindows

/-- The drain completion of RETURN TO PASS (R43, R60, R75, R118, R147, R161). -/
def State.completeReturn (s : State) : State :=
  let s1 := ((s.closeAnyFrame 0).closeAnyFrame 1).discardGroups
  let s2 : State := { s1 with
    streams := mapAll Stream.modeChange s1.streams
    pool := s1.pool.emptied
    evals := { s1.evals with queue := [] }
    comp := { s1.comp with screens := mapAll Screen.modeChange s1.comp.screens } }
  s2.recomputeHidden.finishDrain .pass []

/-- The drain completion of SOFT RESET (R44, R60, R75, R96, R118, R147, R162, R172, R179). -/
def State.completeSoftReset (s : State) : State :=
  let s1 := ((s.closeAnyFrame 0).closeAnyFrame 1).dumpAbandon
  let s2 : State := { s1 with
    streams := mapAll Stream.softReset s1.streams
    pool := s1.pool.emptied
    evals := { s1.evals with queue := [], current := none }
    comp := { s1.comp with screens := mapAll Screen.softReset s1.comp.screens }
    lines := s1.lines.softReset
    holds := s1.holds.softReset
    notices := s1.notices.clear
    time := 0 }
  s2.finishDrain .pass []

/-- Drain completion applies the pending change (R15). -/
def State.completeDrain (s : State) : State :=
  match s.transit.change with
  | .none => s
  | .enterActive => s.completeCommit
  | .returnToPass => s.completeReturn
  | .softReset => s.completeSoftReset

/-- The drain ends when no transaction is in flight (R14, R15). -/
def State.drainIfDone (s : State) : State :=
  if s.transit.mode = .draining ∧ s.transit.reads = [] ∧ s.transit.writes = [] then s.completeDrain else s

/-- Every activity of the Transit Path ended (R16). -/
def Transit.abandon (t : Transit) : Transit :=
  { t with reads := [], writes := [], waiting := [], downWaiting := [], downIssued := [], lastAnswer := none }

/-- What the assertion of RESET_N ends (R16, R61, R75, R96, R119, R172, R183): transactions, frames in progress, timers,
an evaluation, a dump, the notice queue; the other values stand until the release (log entry 10). -/
def State.assertReset (s : State) : State :=
  { s with
    transit := s.transit.abandon
    streams := mapAll Stream.modeChange s.streams
    evals := { s.evals with queue := [], current := none }
    comp := { s.comp with screens := mapAll (fun x => { x with frame := none, unlatched := 0 }) s.comp.screens }
    lines := { s.lines with sides := mapAll (fun x => { x with timer := none }) s.lines.sides }
    notices := s.notices.clear
    port := { s.port with dump := none, miso := [] }
    inReset := true }

end Sys2Proof.Machine
end

