-- ==== Sys2Proof/Machine/Operands.lean ====
section
/-! DEFINITION. Request frames (R173, R175) and the parameter fields of each command, as the tables and rules of
chapters 2, 5, 6 and 11 lay them out. -/

namespace Sys2Proof.Machine

/-! ### Frames -/

/-- The response buffer becomes READY (R173). -/
def State.reply (s : State) (st : Status) (data : List Byte) : State :=
  s.modPort (fun p => { p with buffer := .ready st data })

/-- A command is refused: its status stands in the buffer with length 0 (R175). -/
def State.refuse (s : State) (st : Status) : State := s.reply st []

/-- The parameter bytes of a frame whose length byte is present, equals their number, is at most 250 and is a length
the command takes (R175). -/
def checkFrame (lenOk : Nat → Bool) (body : List Byte) : Option (List Byte) :=
  match body with
  | [] => none
  | l :: ps => if l.toNat = ps.length ∧ l.toNat ≤ 250 ∧ lenOk ps.length = true then some ps else none

/-- MISO carries 0 throughout a request frame (section 11.1); the code and the body make its length. -/
def State.driveZeros (s : State) (body : List Byte) : State :=
  s.modPort (fun p => { p with miso := List.replicate (body.length + 1) 0 })

/-- A request frame: ignored while RESET_N is asserted (R184), lost while the buffer is PENDING (R173), refused when its
form is wrong (R175), else carried out by `k` on its parameter bytes. -/
def State.request (s : State) (lenOk : Nat → Bool) (body : List Byte) (k : List Byte → State → State) : State :=
  if s.inReset then s
  else
    match s.port.buffer with
    | .pending _ => s.driveZeros body
    | _ =>
      match checkFrame lenOk body with
      | none => (s.driveZeros body).refuse .badParam
      | some ps => k ps (s.driveZeros body)

/-- The command takes exactly n parameter bytes (section 11.2). -/
def takes (n : Nat) (len : Nat) : Bool := decide (len = n)

/-! ### SET STREAM (R177) -/

/-- The role of a code (R177). -/
def roleOf : Nat → Option Role
  | 0 => some .none
  | 1 => some .door
  | 2 => some .endA
  | 3 => some .endB
  | 4 => some .spare
  | _ => none

/-- The parameters of SET STREAM as sent (R177). -/
structure StreamParams where
  stream   : Nat
  role     : Nat
  door     : Nat
  identity : Nat
  w        : Nat
  h        : Nat
  base     : Nat
  listLen  : Nat
  slots    : List Nat
  age      : Nat
  mirror   : Nat
  rows     : Nat
  cols     : Nat
  enabled  : Nat
  deriving DecidableEq, Repr

/-- The fields of a SET STREAM request (R177). -/
def streamParams (ps : List Byte) : StreamParams where
  stream := field ps 0 1
  role := field ps 1 1
  door := field ps 2 1
  identity := field ps 3 2
  w := field ps 5 2
  h := field ps 7 2
  base := field ps 9 5
  listLen := field ps 14 1
  slots := ((ps.drop 15).take (min 6 (field ps 14 1))).map BitVec.toNat
  age := field ps 21 2
  mirror := field ps 23 1
  rows := field ps 24 1
  cols := field ps 25 1
  enabled := field ps 26 1

/-- The configuration part the request asks for; with role NONE the slot list is empty and the base 0 (R17). -/
def StreamParams.config (p : StreamParams) (role : Role) : StreamConfig where
  role := role
  door := p.door
  identity := BitVec.ofNat 16 p.identity
  w := p.w
  h := p.h
  base := if role = .none then 0 else p.base
  slotList := if role = .none then [] else p.slots
  ageLimit := clamp 20 2000 p.age
  mirror := p.mirror != 0
  exRows := BitVec.ofNat 6 p.rows
  exCols := BitVec.ofNat 8 p.cols
  enabled := p.enabled != 0

/-- The cases in which R17 and R177 refuse BAD_PARAM, but for the stream number and the role code. -/
def StreamParams.malformed (p : StreamParams) (role : Role) : Bool :=
  decide (p.w < 320 ∨ 2048 < p.w ∨ p.w % 4 ≠ 0 ∨ p.h < 240 ∨ 1536 < p.h)
    || decide (role = .door ∧ 11 < p.door)
    || decide (role ≠ .none ∧ (p.listLen < 2 ∨ ¬ p.slots.Nodup ∨ p.base % 4096 ≠ 0))
    || decide (6 < p.listLen ∨ 64 ≤ p.rows ∨ Config.addrEnd ≤ p.base)
    || decide (role = .none ∧ p.enabled ≠ 0)

/-! ### SET SOILING (R76) -/

/-- The soiling settings of a request, the clamped ones in range (R76, section 5.1). -/
def soilingOf (ps : List Byte) : Soiling where
  low := field ps 0 2
  high := field ps 2 2
  persistOn := clamp 1 15 (field ps 4 1)
  persistOff := clamp 1 15 (field ps 5 1)
  learn := clamp 4 32 (field ps 6 1)
  adapt := clamp 3 8 (field ps 7 1)
  suspect := field ps 8 2
  soiled := field ps 10 2
  dark := field ps 12 1
  glare := field ps 13 1
  badge := field ps 14 1 != 0

/-- The cases in which R76 refuses BAD_PARAM. -/
def Soiling.inconsistent (z : Soiling) : Bool :=
  decide (1023 < z.low ∨ 1023 < z.high ∨ 256 < z.suspect ∨ 256 < z.soiled)
    || decide (z.high ≤ z.low) || decide (z.soiled < z.suspect + 16) || decide (z.glare ≤ z.dark)

/-- The settings as the 15 bytes of the response (R76). -/
def Soiling.bytes (z : Soiling) : List Byte :=
  leBytes 2 z.low ++ leBytes 2 z.high ++ leBytes 1 z.persistOn ++ leBytes 1 z.persistOff ++ leBytes 1 z.learn
    ++ leBytes 1 z.adapt ++ leBytes 2 z.suspect ++ leBytes 2 z.soiled ++ leBytes 1 z.dark ++ leBytes 1 z.glare
    ++ [flagByte z.badge]

/-! ### SET LAYOUT (R98) -/

/-- The pane in the 15 bytes at `off`, none when its stream is above 15 or its flags above 3 (R98). -/
def paneAt (ps : List Byte) (off : Nat) : Option Pane :=
  match index? 16 (field ps off 1) with
  | none => none
  | some i =>
    if 3 < field ps (off + 14) 1 then none
    else some {
      stream := i
      sx := field ps (off + 1) 2
      sy := field ps (off + 3) 2
      sw := field ps (off + 5) 2
      sh := field ps (off + 7) 2
      k := field ps (off + 9) 1
      dx := field ps (off + 10) 2
      dy := field ps (off + 12) 2
      mirror := field ps (off + 14) 1 % 2 = 1
      badge := 2 ≤ field ps (off + 14) 1 }

/-- Whether a pane's k and crop are allowed for its stream as configured (R98). -/
def Pane.allowed (streams : Vector Stream 16) (p : Pane) : Bool :=
  decide (1 ≤ p.k ∧ p.k ≤ 4 ∧ p.sw ≠ 0 ∧ p.sh ≠ 0 ∧ p.sw % p.k = 0 ∧ p.sh % p.k = 0
    ∧ p.sx + p.sw ≤ streams[p.stream].cfg.w ∧ p.sy + p.sh ≤ streams[p.stream].cfg.h)

/-- All entries, where every one is present. -/
def allPresent {α : Type} : List (Option α) → Option (List α)
  | [] => some []
  | none :: _ => none
  | some x :: xs => (allPresent xs).map (fun l => x :: l)

/-- The layout of a SET LAYOUT request (R98). -/
def layoutOf (ps : List Byte) : Option Layout :=
  (allPresent ((List.range (field ps 4 1)).map (fun j => paneAt ps (5 + 15 * j)))).map
    (fun panes => ⟨⟨BitVec.ofNat 8 (field ps 1 1), BitVec.ofNat 8 (field ps 2 1), BitVec.ofNat 8 (field ps 3 1)⟩, panes⟩)

end Sys2Proof.Machine
end

