-- ==== Sys2Proof/WellFormed.lean ====
section
/-! DEFINITION. Which terms of Instr are an event of the manual: the beat counts of R1, the RESPONSE frame of R174,
the unknown code of R175. Every other term is well formed whatever its operands. -/

namespace Sys2Proof

/-- The command codes of the table of section 11.2, RESPONSE (7F) among them. -/
def commandCodes : List Nat :=
  [0x10, 0x11, 0x12, 0x13, 0x14, 0x15, 0x16, 0x17, 0x18, 0x19, 0x1A, 0x1B, 0x1C,
   0x20, 0x21, 0x22, 0x30, 0x31, 0x32, 0x33, 0x34, 0x40, 0x41, 0x42, 0x43, 0x44, 0x45, 0x46, 0x7F]

/-- A read moves 1–16 beats (R1). -/
def ReadReq.wf (q : ReadReq) : Bool := decide (1 ≤ q.beats ∧ q.beats ≤ 16)

/-- A write moves 1–16 beats (R1). -/
def WriteReq.wf (q : WriteReq) : Bool := decide (1 ≤ q.beats.length ∧ q.beats.length ≤ 16)

/-- Whether a term is an event of the manual. -/
def Instr.wf : Instr → Bool
  | .upstreamReadAccepted q => q.wf
  | .upstreamWriteAccepted q => q.wf
  | .response n => decide (1 ≤ n)
  | .unknownCommand code => !commandCodes.contains code.toNat
  | .writeDataTaken | .answerReturned _ _ | .downstreamRequestIssued | .forwardedReadBeat _ _
  | .forwardedWriteResponse _ _ | .steeredWriteResponse _ _ | .captureReadBeat _ _ | .reviewReadBeat _ _
  | .gatherReadBeat _ _ | .dumpWriteResponse _ _ | .resetNAsserted | .resetNReleased | .partTimeStep _ _
  | .freshnessTimerExpiry _ | .evaluationCompletion | .screenFrameTimerExpiry _ | .lingerTimerExpiry _
  | .noticeLingerExpiry | .emptyFrame
  | .setPool _ | .setStream _ | .enableStream _ | .disableStream _ | .setScreen _ | .setLayout _ | .selectLayout _
  | .setDoorView _ | .setReverseView _ | .setSoiling _ | .setHold _ | .setNotice _ | .setNoticeMask _
  | .commit _ | .returnToPass _ | .softReset _ | .resetBaseline _ | .hold _ | .release _ | .review _ | .dumpTiles _
  | .takeNotices _ | .noticeLevel _ | .readStreamStatus _ | .readScreenStatus _ | .readHolds _ | .readLines _
  | .readPart _ => true

end Sys2Proof
end

