-- ==== Sys2Proof/Machine/Transit.lean ====
section
/-! DEFINITION. The Transit Path (chapter 1): acceptance and decode, order of answers, the downstream port, drain. The
meanings of the twelve port events and of the two edges of RESET_N. -/

namespace Sys2Proof.Machine

/-! ### Acceptance (R2, R7 to R12) -/

/-- The beats of a read the part answers itself: zero bytes, one response on every beat (R1, R10). -/
def partBeats (n : Nat) (resp : Resp) : List ReadBeat := List.replicate n ⟨0, resp⟩

/-- A read answered by the part itself (R10, R56, R157). -/
def State.answerRead (s : State) (q : ReadReq) (resp : Resp) : State :=
  s.modTransit (fun t => t.addRead q .answered (partBeats q.beats resp))

/-- A read forwarded downstream unaltered (R4, R11, R12). -/
def State.forwardRead (s : State) (q : ReadReq) : State :=
  s.modTransit (fun t => (t.addRead q .forwarded []).form
    ⟨.forwardedRead t.nextKey, .read, q.id, q.addr.toNat, q.burst, q.beats, [], q.beats⟩)

/-- A read redirected to a place in a slot, which it pins (R4, R53). -/
def State.redirectRead (s : State) (q : ReadReq) (service : ReadService) (owner : Nat → DownOwner) (slot offset : Nat) :
    State :=
  (s.modTransit (fun t => (t.addRead q service []).form
    ⟨owner t.nextKey, .read, q.id, s.pool.slotBase slot + offset, q.burst, q.beats, [], q.beats⟩)).modPool
    (fun p => p.pin slot)

/-- A read of stream i's capture window (R56). -/
def State.readCapture (s : State) (i : Fin 16) (q : ReadReq) (offset : Nat) : State :=
  match s.pool.currentOf i with
  | none => s.answerRead q .error
  | some c =>
    let size := (s.pool.record c).frameSize
    if size ≤ offset then s.answerRead q .okay
    else s.redirectRead q (.capture c offset size) .captureRead c offset

/-- A read of the review aperture (R157). -/
def State.readReview (s : State) (q : ReadReq) (offset : Nat) : State :=
  match s.holds.mapping with
  | none => s.answerRead q .error
  | some m =>
    let size := (s.pool.record m.slot).frameSize
    if size ≤ offset then s.answerRead q .okay
    else s.redirectRead q (.review m.slot offset size m.serial m.autoRelease) .reviewRead m.slot offset

/-- Accept a read: decoded under the mode and map in force (R7 to R12). -/
def State.acceptRead (s : State) (q : ReadReq) : State :=
  if s.transit.mode = .active then
    match decodeAccess s.transit.windows s.pool.size q.addr.toNat q.burst q.beats with
    | .split => (s.notify .splitAccess 0 q.id.toNat).answerRead q .error
    | .guardHit n => (s.notify .guardHit 0 n).answerRead q .error
    | .refused => s.answerRead q .error
    | .plain => s.forwardRead q
    | .capture i offset => s.readCapture i q offset
    | .screen c offset => s.readScreen c q offset
    | .review offset => s.readReview q offset
  else s.forwardRead q

/-- Append an accepted write to its order list (R2, R3). -/
def Transit.addWrite (t : Transit) (q : WriteReq) (service : WriteService) (response : Option Resp) : Transit :=
  { t with writes := t.writes ++ [⟨t.nextKey, q, service, false, response⟩], nextKey := t.nextKey + 1 }

/-- A write refused: its data are taken and discarded, it is answered ERROR (R10, R105). -/
def State.refuseWrite (s : State) (q : WriteReq) : State := s.modTransit (fun t => t.addWrite q .refused (some .error))

/-- A write forwarded downstream unaltered (R4, R11, R12). -/
def State.forwardWrite (s : State) (q : WriteReq) : State :=
  s.modTransit (fun t => (t.addWrite q .forwarded none).form
    ⟨.forwardedWrite t.nextKey, .write, q.id, q.addr.toNat, q.burst, q.beats.length, q.beats, 1⟩)

/-- A write to stream i's capture window is handed to the Capture Tracker (R10, R21). -/
def State.writeCapture (s : State) (i : Fin 16) (q : WriteReq) (offset : Nat) : State :=
  (s.modTransit (fun t => t.addWrite q (.held i) none)).handWrite i ⟨s.transit.nextKey, q.id, offset, q.beats⟩

/-- Accept a write: decoded under the mode and map in force (R7 to R12). -/
def State.acceptWrite (s : State) (q : WriteReq) : State :=
  if s.transit.mode = .active then
    match decodeAccess s.transit.windows s.pool.size q.addr.toNat q.burst q.beats.length with
    | .split => (s.notify .splitAccess 0 q.id.toNat).refuseWrite q
    | .guardHit n => (s.notify .guardHit 0 n).refuseWrite q
    | .refused => s.refuseWrite q
    | .plain => s.forwardWrite q
    | .capture i offset => s.writeCapture i q offset
    | .screen _ _ => s.refuseWrite q
    | .review _ => s.refuseWrite q
  else s.forwardWrite q

/-- Whether a request can be accepted now: not in DRAINING, and its direction below its limit (R2, R13). -/
def State.canAccept (s : State) : PortReq → Bool
  | .read _ => decide (s.transit.mode ≠ .draining ∧ s.transit.reads.length < Config.maxInFlight)
  | .write _ => decide (s.transit.mode ≠ .draining ∧ s.transit.writes.length < Config.maxInFlight)

/-- The direction of a waiting request. -/
def PortReq.dir : PortReq → Dir
  | .read _ => .read
  | .write _ => .write

/-- A request arrives at the port: accepted, or waiting behind those of its direction (R2, R13, log entry 2). -/
def State.offer (s : State) (r : PortReq) : State :=
  if s.canAccept r && !s.transit.waiting.any (fun x => decide (x.dir = r.dir)) then
    match r with
    | .read q => s.acceptRead q
    | .write q => s.acceptWrite q
  else s.modTransit (fun t => { t with waiting := t.waiting ++ [r] })

/-- Waiting requests are accepted as far as the limits allow, oldest first (R2, log entry 2). -/
def State.acceptWaiting (s : State) : State :=
  s.transit.waiting.foldl State.offer (s.modTransit (fun t => { t with waiting := [] }))

/-- After an event that ends a transaction or enters DRAINING: drain completion, then waiting requests (R2, R15). -/
def State.settlePort (s : State) : State := s.drainIfDone.acceptWaiting

/-! ### Answers (R1, R3) -/

/-- The beats of a read's answer as they are returned. -/
def ReadTxn.answer (x : ReadTxn) : List ReadBeat :=
  match x.service with
  | .screen r => r.answer x.req.beats
  | _ => x.beats

/-- Whether a read's answer is complete (R3). -/
def ReadTxn.ready (x : ReadTxn) : Bool :=
  match x.service with
  | .screen r => r.complete
  | _ => decide (x.req.beats ≤ x.beats.length)

/-- Whether an auto-release follows the return of a review read (R158). -/
def autoReleases (m : Option Mapping) (x : ReadTxn) : Option Mapping :=
  match m, x.service with
  | some m, .review _ offset size serial auto =>
    if auto = true ∧ m.serial = serial ∧ offset < size ∧ size ≤ offset + 16 * x.req.beats
        ∧ x.beats.all (fun b => decide (b.resp = .okay)) = true then some m else none
  | _, _ => none

/-- What the return of a read's last beat does in the block that served it (R53, R57, R112, R115, R157, R158). -/
def State.readReturned (s : State) (x : ReadTxn) : State :=
  match x.service with
  | .forwarded => s
  | .answered => s
  | .capture slot _ _ => s.modPool (fun p => p.unpin slot)
  | .review slot _ _ _ _ =>
    let s1 := s.modPool (fun p => p.unpin slot)
    match autoReleases s.holds.mapping x with
    | none => s1
    | some m => s1.autoReleaseMapped m
  | .screen r => s.screenReturned r

/-- Remove the first entry of which p holds. -/
def removeFirst {α : Type} (p : α → Bool) : List α → List α
  | [] => []
  | x :: xs => if p x then xs else x :: removeFirst p xs

/-- The head of the read order list of an id (R3). -/
def Transit.headRead (t : Transit) (id : TxnId) : Option ReadTxn := t.reads.find? (fun x => decide (x.req.id = id))

/-- The head of the write order list of an id (R3). -/
def Transit.headWrite (t : Transit) (id : TxnId) : Option WriteTxn := t.writes.find? (fun x => decide (x.req.id = id))

/-- Return the answer at the head of a read order list, when it is complete (R3). -/
def State.returnRead (s : State) (id : TxnId) : State :=
  match s.transit.headRead id with
  | none => s
  | some x =>
    if x.ready then
      ((s.modTransit (fun t =>
        { t with
          reads := removeFirst (fun y => decide (y.req.id = id)) t.reads
          lastAnswer := some (.read id x.answer) })).readReturned x).settlePort
    else s

/-- Return the response at the head of a write order list, when its data are taken and it is known (R1, R3). -/
def State.returnWrite (s : State) (id : TxnId) : State :=
  match s.transit.headWrite id with
  | none => s
  | some x =>
    match x.response with
    | none => s
    | some resp =>
      if x.dataTaken then
        (s.modTransit (fun t =>
          { t with
            writes := removeFirst (fun y => decide (y.req.id = id)) t.writes
            lastAnswer := some (.write id resp) })).settlePort
      else s

/-- The oldest accepted write whose data are outstanding has its data taken (R1). -/
def takeData : List WriteTxn → List WriteTxn
  | [] => []
  | x :: xs => if x.dataTaken then x :: takeData xs else { x with dataTaken := true } :: xs

/-- A read gains a beat of its answer. -/
def ReadTxn.addBeat (x : ReadTxn) (b : ReadBeat) : ReadTxn := { x with beats := x.beats ++ [b] }

/-- A beat of a read redirected to a slot: zero and OKAY at and beyond the frame size (R57, R157). -/
def ReadTxn.addSlotBeat (x : ReadTxn) (b : ReadBeat) : ReadTxn :=
  match x.service with
  | .capture _ offset size => x.addBeat (if offset + 16 * x.beats.length < size then b else ⟨0, .okay⟩)
  | .review _ offset size _ _ => x.addBeat (if offset + 16 * x.beats.length < size then b else ⟨0, .okay⟩)
  | _ => x.addBeat b

/-- Whether a downstream request of an owner kind has an id. -/
def DownReq.isForwardedRead (id : TxnId) (r : DownReq) : Bool :=
  match r.owner with
  | .forwardedRead _ => decide (r.id = id)
  | _ => false
def DownReq.isForwardedWrite (id : TxnId) (r : DownReq) : Bool :=
  match r.owner with
  | .forwardedWrite _ => decide (r.id = id)
  | _ => false
def DownReq.isSteered (id : TxnId) (r : DownReq) : Bool :=
  match r.owner with
  | .steeredWrite _ _ => decide (r.id = id)
  | _ => false
def DownReq.isCapture (id : TxnId) (r : DownReq) : Bool :=
  match r.owner with
  | .captureRead _ => decide (r.id = id)
  | _ => false
def DownReq.isReview (id : TxnId) (r : DownReq) : Bool :=
  match r.owner with
  | .reviewRead _ => decide (r.id = id)
  | _ => false
def DownReq.isGather (r : DownReq) : Bool :=
  match r.owner with
  | .gather _ _ _ => true
  | _ => false
def DownReq.isDump (r : DownReq) : Bool :=
  match r.owner with
  | .dump _ => true
  | _ => false

/-- A gather beat reaches the read it serves; an ERROR sends its notice (R104, R111). -/
def State.gatherAnswered (s : State) (key slot offset : Nat) (beat : ReadBeat) : State :=
  match s.transit.reads.find? (fun x => decide (x.key = key)) with
  | none => s
  | some x =>
    match x.service with
    | .screen r =>
      let s1 := s.modTransit (fun t => t.modRead key (fun y => { y with service := .screen (r.deliver slot offset beat) }))
      if beat.resp = .error then s1.gatherFault r.screen slot else s1
    | _ => s

/-- What an answer beat or response does for the transaction it belongs to (R4, R11, R32, R57, R111, R157, R182). -/
def State.answered (s : State) (owner : DownOwner) (beat : ReadBeat) : State :=
  match owner with
  | .forwardedRead key => s.modTransit (fun t => t.modRead key (fun x => x.addBeat beat))
  | .captureRead key => s.modTransit (fun t => t.modRead key (fun x => x.addSlotBeat beat))
  | .reviewRead key => s.modTransit (fun t => t.modRead key (fun x => x.addSlotBeat beat))
  | .gather key slot offset => s.gatherAnswered key slot offset beat
  | .forwardedWrite key => s.modTransit (fun t => t.modWrite key (fun x => { x with response := some beat.resp }))
  | .steeredWrite key i => s.steeredAnswered i key beat.resp
  | .dump abandoned => if abandoned then s else s.dumpAnswered beat.resp

/-- A downstream answer for the n-th issued request of which p holds (R4); one that matches none is no event (log entry 3). -/
def State.matchDown (s : State) (p : DownReq → Bool) (n : Nat) (beat : ReadBeat) : State :=
  match answerDown p n s.transit.downIssued with
  | none => s
  | some (r, rest) => (s.modTransit (fun t => { t with downIssued := rest })).answered r.owner beat

/-- What an answer does when its transaction was issued since the last reset. One of a transaction issued before it is matched
to no transaction and discarded, whatever has been issued since (R16, log entry 31). -/
def State.answerTo {α : Type} (s : State) (a : AnswerTo α) (use : α → State) : State :=
  match a with
  | .sinceReset which => use which
  | .beforeReset _ => s

/-! ### The meanings of the port events -/

/-- UPSTREAM_READ_ACCEPTED. While RESET_N is asserted no request is accepted (R16). -/
def execUpstreamReadAccepted (q : ReadReq) (s : State) : Host.Outcome State Fault Refusal :=
  if q.wf then .next (if s.inReset then s else s.offer (.read q)) else .refused .notATransaction

/-- UPSTREAM_WRITE_ACCEPTED. -/
def execUpstreamWriteAccepted (q : WriteReq) (s : State) : Host.Outcome State Fault Refusal :=
  if q.wf then .next (if s.inReset then s else s.offer (.write q)) else .refused .notATransaction

/-- WRITE_DATA_TAKEN (R1). -/
def execWriteDataTaken (s : State) : Host.Outcome State Fault Refusal :=
  .next (s.modTransit (fun t => { t with writes := takeData t.writes }))

/-- ANSWER_RETURNED (R3): nothing is returned while the answer at the head of the list is not complete. -/
def execAnswerReturned (dir : Dir) (id : TxnId) (s : State) : Host.Outcome State Fault Refusal :=
  match dir with
  | .read => .next (s.returnRead id)
  | .write => .next (s.returnWrite id)

/-- DOWNSTREAM_REQUEST_ISSUED (R4). -/
def execDownstreamRequestIssued (s : State) : Host.Outcome State Fault Refusal := .next (s.modTransit Transit.issue)

/-- FORWARDED_READ_BEAT (R11, R12). -/
def execForwardedReadBeat (id : AnswerTo TxnId) (beat : ReadBeat) (s : State) : Host.Outcome State Fault Refusal :=
  .next (s.answerTo id (fun id => s.matchDown (DownReq.isForwardedRead id) 0 beat))

/-- FORWARDED_WRITE_RESPONSE (R11, R12). -/
def execForwardedWriteResponse (id : AnswerTo TxnId) (resp : Resp) (s : State) : Host.Outcome State Fault Refusal :=
  .next (s.answerTo id (fun id => s.matchDown (DownReq.isForwardedWrite id) 0 ⟨0, resp⟩))

/-- STEERED_WRITE_RESPONSE (R32). -/
def execSteeredWriteResponse (id : AnswerTo TxnId) (resp : Resp) (s : State) : Host.Outcome State Fault Refusal :=
  .next (s.answerTo id (fun id => s.matchDown (DownReq.isSteered id) 0 ⟨0, resp⟩))

/-- CAPTURE_READ_BEAT (R57). -/
def execCaptureReadBeat (id : AnswerTo TxnId) (beat : ReadBeat) (s : State) : Host.Outcome State Fault Refusal :=
  .next (s.answerTo id (fun id => s.matchDown (DownReq.isCapture id) 0 beat))

/-- REVIEW_READ_BEAT (R157). -/
def execReviewReadBeat (id : AnswerTo TxnId) (beat : ReadBeat) (s : State) : Host.Outcome State Fault Refusal :=
  .next (s.answerTo id (fun id => s.matchDown (DownReq.isReview id) 0 beat))

/-- GATHER_READ_BEAT (R111). -/
def execGatherReadBeat (n : AnswerTo Nat) (beat : ReadBeat) (s : State) : Host.Outcome State Fault Refusal :=
  .next (s.answerTo n (fun n => s.matchDown DownReq.isGather n beat))

/-- DUMP_WRITE_RESPONSE (R182). -/
def execDumpWriteResponse (n : AnswerTo Nat) (resp : Resp) (s : State) : Host.Outcome State Fault Refusal :=
  .next (s.answerTo n (fun n => s.matchDown DownReq.isDump n ⟨0, resp⟩))

/-- RESET_N_ASSERTED (R16). -/
def execResetNAsserted (s : State) : Host.Outcome State Fault Refusal := .next s.assertReset

/-- RESET_N_RELEASED (R184): every block at its values after pin reset; no event while RESET_N is not asserted. -/
def execResetNReleased (s : State) : Host.Outcome State Fault Refusal :=
  .next (if s.inReset then { State.reset with pending := s.pending } else s)

end Sys2Proof.Machine
end

