-- ==== Sys2Proof/Machine/ModeCommands.lean ====
section
/-! DEFINITION. The mode commands COMMIT, RETURN TO PASS and SOFT RESET (R13, R178, R179), and the frames that name no
command: RESPONSE, an empty frame, an unknown code (R173 to R175). -/

namespace Sys2Proof.Machine

/-! ### The checks of COMMIT (R178) -/

/-- The slot numbers of the lists of streams with a role, each with its stream. -/
def State.listedSlots (s : State) : List (Nat × Nat) :=
  (List.finRange 16).flatMap (fun i =>
    if (s.stream i).cfg.role = .none then [] else (s.stream i).cfg.slotList.map (fun n => (n, i.val)))

/-- Slot numbers that do not exist, with their stream (second check). -/
def State.absentSlots (s : State) : List (Nat × Nat) := s.listedSlots.filter (fun x => decide (s.pool.count ≤ x.1))

/-- Slot numbers two streams list, with the lower stream (third check). -/
def State.sharedSlots (s : State) : List (Nat × Nat) :=
  s.listedSlots.filter (fun x => s.listedSlots.any (fun y => decide (y.1 = x.1 ∧ x.2 < y.2)))

/-- Windows that reach above FFFFFFFFF (fourth check, R6). -/
def windowsTooHigh (ws : List Window) : List (Nat × Nat) :=
  (ws.filter (fun w => decide (Config.addrEnd < w.stop))).map (fun w => (w.kind.code, 255))

/-- Pairs of windows that share a byte, the lower-coded first (fifth check, R6). -/
def windowOverlaps (ws : List Window) : List (Nat × Nat) :=
  ws.flatMap (fun v => (ws.filter (fun w => decide (v.kind.code < w.kind.code) && v.overlaps w)).map
    (fun w => (v.kind.code, w.kind.code)))

/-- The destination range of a dump: its first byte and one above its last (R181). -/
def Dump.range (d : Dump) : Nat × Nat := (d.dest, d.dest + Config.dumpRecordBytes * (d.last - d.first + 1))

/-- Windows that meet the destination range of a running dump (sixth check, R183). -/
def State.dumpMeets (s : State) (ws : List Window) : List (Nat × Nat) :=
  match s.port.dump with
  | none => []
  | some d => (ws.filter (fun w => w.meets d.range.1 d.range.2)).map (fun w => (w.kind.code, 254))

/-- Enabled streams whose frame does not fit a slot (seventh check). -/
def State.framesTooLarge (s : State) : List (Nat × Nat) :=
  ((List.finRange 16).filter (fun i =>
    let c := (s.stream i).cfg
    decide (c.role ≠ .none) && c.enabled && decide (s.pool.size < frameSizeOf c.w c.h))).map (fun i => (i.val, 255))

/-- The first entry of a list of failed checks, each with its status. -/
def firstFailure : List (Status × List (Nat × Nat)) → Option (Status × Nat × Nat)
  | [] => none
  | (st, items) :: rest =>
    match leastPair items with
    | some x => some (st, x)
    | none => firstFailure rest

/-- The first check of COMMIT that fails, with its status and its two data bytes; none when every check passes. -/
def State.commitFailure (s : State) : Option (Status × Nat × Nat) :=
  let ws := s.buildWindows
  firstFailure [
    (.state, if s.pool.isSet then [] else [(255, 255)]),
    (.badParam, s.absentSlots),
    (.inUse, s.sharedSlots),
    (.badAddress, windowsTooHigh ws),
    (.overlap, windowOverlaps ws),
    (.badAddress, s.dumpMeets ws),
    (.tooLarge, s.framesTooLarge)]

def State.doCommit (s : State) : State :=
  if s.transit.mode = .active then s.refuse .state
  else
    match s.commitFailure with
    | some (st, a, b) => s.reply st (leBytes 1 a ++ leBytes 1 b)
    | none => (s.enterDraining .enterActive).settlePort

/-- COMMIT (R6, R13, R178). -/
def execCommit (body : List Byte) (s : State) : Host.Outcome State Fault Refusal :=
  .next (s.request (takes 0) body (fun _ => State.doCommit))

def State.doReturnToPass (s : State) : State :=
  if s.transit.mode ≠ .active then s.refuse .state
  else if s.holds.groups ≠ [] then s.refuse .holdsPresent
  else (s.enterDraining .returnToPass).settlePort

/-- RETURN_TO_PASS (R13, R179). -/
def execReturnToPass (body : List Byte) (s : State) : Host.Outcome State Fault Refusal :=
  .next (s.request (takes 0) body (fun _ => State.doReturnToPass))

def State.doSoftReset (s : State) : State := (s.enterDraining .softReset).settlePort

/-- SOFT_RESET (R13, R179). -/
def execSoftReset (body : List Byte) (s : State) : Host.Outcome State Fault Refusal :=
  .next (s.request (takes 0) body (fun _ => State.doSoftReset))

/-! ### RESPONSE and the other frames (R173 to R175) -/

/-- The code of a status (section 11.2). -/
def Status.code : Status → Nat
  | .done => 0
  | .accepted => 1
  | .busy => 2
  | .badParam => 3
  | .badCode => 4
  | .state => 5
  | .inUse => 6
  | .overlap => 7
  | .tooLarge => 8
  | .limit => 9
  | .notFound => 10
  | .doorsOpen => 11
  | .holdsPresent => 12
  | .badAddress => 13

/-- What the buffer offers on MISO from byte 0 on; every further byte is 0 (section 11.1, R174). -/
def Buffer.bytes : Buffer → List Byte
  | .empty => [0, 0xFF, 0]
  | .pending _ => [0, BitVec.ofNat 8 Status.busy.code, 0]
  | .ready st data => [0, BitVec.ofNat 8 st.code, BitVec.ofNat 8 data.length] ++ data

/-- The first n bytes of a frame that offers `l` and then zeros. -/
def clockOut : Nat → List Byte → List Byte
  | 0, _ => []
  | n + 1, [] => 0 :: clockOut n []
  | n + 1, x :: xs => x :: clockOut n xs

/-- The buffer after a RESPONSE frame of n bytes: EMPTY once byte 2 and every data byte have been clocked out (R174). -/
def Buffer.fetched (b : Buffer) (n : Nat) : Buffer :=
  match b with
  | .ready st data => if 3 + data.length ≤ n then .empty else .ready st data
  | b => b

/-- RESPONSE: a frame of n whole bytes, taken at the fall of CS_N (R174); ignored while RESET_N is asserted (R184). -/
def execResponse (n : Nat) (s : State) : Host.Outcome State Fault Refusal :=
  if n = 0 then .refused .notAFrame
  else .next (if s.inReset then s
    else s.modPort (fun p => { p with buffer := p.buffer.fetched n, miso := clockOut n p.buffer.bytes }))

/-- EMPTY_FRAME: ignored (R173). -/
def execEmptyFrame (s : State) : Host.Outcome State Fault Refusal := .next s

/-- A frame whose code is absent from the table: BAD_CODE, or lost while PENDING (R173, R175). -/
def State.refuseCode (s : State) : State :=
  if s.inReset then s
  else
    match s.port.buffer with
    | .pending _ => s.driveZeros []
    | _ => (s.driveZeros []).refuse .badCode

/-- UNKNOWN_COMMAND (R175). -/
def execUnknownCommand (code : Byte) (s : State) : Host.Outcome State Fault Refusal :=
  if commandCodes.contains code.toNat then .refused .codeIsKnown else .next s.refuseCode

end Sys2Proof.Machine
end

