-- ==== Sys2Proof/Machine/HoldCommands.lean ====
section
/-! DEFINITION. HOLD, RELEASE and REVIEW (R151, R155, R156), DUMP TILES (R181), TAKE NOTICES and NOTICE LEVEL (R170,
R171). -/

namespace Sys2Proof.Machine

/-! ### HOLD, RELEASE, REVIEW -/

def State.doHold (ps : List Byte) (s : State) : State :=
  let pre := clamp 1 4 (field ps 1 1)
  let post := clamp 0 3 (field ps 2 1)
  match index? 16 (field ps 0 1) with
  | none => s.refuse .badParam
  | some i =>
    if s.transit.mode ≠ .active then s.refuse .state
    else
      match s.decideHold i pre with
      | .refused _ => (s.makeHold .command i pre post).refuse .limit
      | .made id h => (s.makeHold .command i pre post).reply .done (leBytes 1 id ++ leBytes 1 h)

/-- HOLD (R150, R151). -/
def execHold (body : List Byte) (s : State) : Host.Outcome State Fault Refusal :=
  .next (s.request (takes 3) body State.doHold)

def State.doRelease (ps : List Byte) (s : State) : State :=
  match s.holds.group? (field ps 0 1) with
  | none => s.refuse .notFound
  | some g => (s.releaseGroup g).reply .done (leBytes 1 g.slots.length)

/-- RELEASE (R155). -/
def execRelease (body : List Byte) (s : State) : Host.Outcome State Fault Refusal :=
  .next (s.request (takes 1) body State.doRelease)

/-- The review mapping is replaced (R156). -/
def HoldTable.remap (t : HoldTable) (group index slot : Nat) (auto : Bool) : HoldTable :=
  { t with mapping := some ⟨t.nextSerial, group, index, slot, auto⟩, nextSerial := t.nextSerial + 1 }

def State.doReview (ps : List Byte) (s : State) : State :=
  let index := field ps 1 1
  match s.holds.group? (field ps 0 1) with
  | none => s.refuse .notFound
  | some g =>
    match g.slots[index]? with
    | none => s.refuse .badParam
    | some n =>
      let x := s.pool.record n
      (s.modHolds (fun t => t.remap g.id index n (field ps 2 1 != 0))).reply .done
        (leBytes 1 n ++ leBytes 2 x.sequence.toNat ++ leBytes 4 x.frameSize)

/-- REVIEW (R156). -/
def execReview (body : List Byte) (s : State) : Host.Outcome State Fault Refusal :=
  .next (s.request (takes 3) body State.doReview)

/-! ### DUMP TILES -/

/-- The windows a dump may not meet: the map in ACTIVE, those COMMIT would build in PASS (R181). -/
def State.standingWindows (s : State) : List Window :=
  if s.transit.mode = .active then s.transit.windows else s.buildWindows

def State.doDumpTiles (ps : List Byte) (s : State) : State :=
  let first := field ps 0 1
  let last := min 15 (field ps 1 1)
  let dest := field ps 2 5
  let stop := dest + Config.dumpRecordBytes * (last - first + 1)
  match index? 16 first with
  | none => s.refuse .badParam
  | some i =>
    if last < first ∨ dest % 16 ≠ 0 then s.refuse .badParam
    else if Config.addrEnd < stop ∨ s.standingWindows.any (fun w => w.meets dest stop) = true then s.refuse .badAddress
    else if s.port.dump.isSome then s.refuse .busy
    else (s.dumpBegin ⟨first, last, dest, i, none, 0, false, 0⟩).reply .accepted []

/-- DUMP_TILES (R181, R182). -/
def execDumpTiles (body : List Byte) (s : State) : Host.Outcome State Fault Refusal :=
  .next (s.request (takes 7) body State.doDumpTiles)

/-! ### TAKE NOTICES and NOTICE LEVEL -/

/-- The ten bytes of a notice record (R170). -/
def Notice.bytes (r : Notice) : List Byte :=
  leBytes 1 r.kind.code ++ leBytes 1 r.subject ++ leBytes 2 r.value ++ leBytes 4 r.stamp.toNat ++ leBytes 1 r.repeats
    ++ leBytes 1 r.lostBefore

def State.doTakeNotices (ps : List Byte) (s : State) : State :=
  let n := clamp 1 8 (field ps 0 1)
  let taken := s.notices.records.take n
  (s.modNotices (fun q => q.drop s.time n)).reply .done (leBytes 1 taken.length ++ taken.flatMap Notice.bytes)

/-- TAKE_NOTICES (R170). -/
def execTakeNotices (body : List Byte) (s : State) : Host.Outcome State Fault Refusal :=
  .next (s.request (takes 1) body State.doTakeNotices)

/-- The conditions of R167 that hold, summed (R171). -/
def NoticeQueue.conditions (q : NoticeQueue) : Nat :=
  if q.records.isEmpty then 0
  else (if q.countHolds then 1 else 0) + (if q.due then 2 else 0) + (if q.immediateHolds then 4 else 0)

def State.doNoticeLevel (s : State) : State :=
  s.reply .done (leBytes 1 s.notices.records.length ++ leBytes 1 s.notices.lost ++ [flagByte s.notices.asserted]
    ++ leBytes 1 s.notices.conditions)

/-- NOTICE_LEVEL (R171). -/
def execNoticeLevel (body : List Byte) (s : State) : Host.Outcome State Fault Refusal :=
  .next (s.request (takes 0) body (fun _ => State.doNoticeLevel))

end Sys2Proof.Machine
end

