-- ==== Sys2Proof/Machine/Readout.lean ====
section
/-! DEFINITION. The readout commands (R41, R58, R74, R95, R117, R146, R160, R180): the bytes of each response, field by
field in the order of the rule that lists them. Encodings the rules leave open are log entries 11 and 12. -/

namespace Sys2Proof.Machine

/-! ### Field encodings (R180) -/

/-- A number, or FF for none (R180). -/
def numberOrNone : Option Nat → List Byte
  | none => [0xFF]
  | some n => leBytes 1 n

/-- An optional value: presence byte, then the value in n bytes, 0 when absent (R180). -/
def optionalBytes (n : Nat) : Option Nat → List Byte
  | none => leBytes 1 0 ++ leBytes n 0
  | some v => leBytes 1 1 ++ leBytes n v

/-- A list: entry count, then the entries (R180). -/
def listBytes {α : Type} (f : α → List Byte) (l : List α) : List Byte := leBytes 1 l.length ++ l.flatMap f

/-- The place of a number in a list, counted from 0. -/
def placeIn (l : List Nat) (n : Nat) : Option Nat := l.findIdx? (fun m => decide (m = n))

def Role.code : Role → Nat
  | .none => 0
  | .door => 1
  | .endA => 2
  | .endB => 3
  | .spare => 4
def Freshness.code : Freshness → Nat
  | .noSignal => 0
  | .live => 1
  | .stale => 2
def Life.code : Life → Nat
  | .free => 0
  | .filling => 1
  | .current => 2
  | .retired => 3
def Collection.code : Collection → Nat
  | .idle => 0
  | .collecting => 1
  | .dropped => 2
def Overlay.code : Overlay → Nat
  | .none => 0
  | .noSignal => 1
  | .stale => 2
  | .badgeSuspect => 3
  | .badgeSoiled => 4
def Cause.code : Cause → Nat
  | .obstruction => 0
  | .command => 1
def Mode.code : Mode → Nat
  | .pass => 0
  | .draining => 1
  | .active => 2
def Change.code : Change → Nat
  | .none => 0
  | .enterActive => 1
  | .returnToPass => 2
  | .softReset => 3

/-! ### READ STREAM STATUS -/

/-- Capture progress and its companions, 0 (FF for the slot) when IDLE (R41). -/
def fillBytes : Option Filling → List Byte
  | none => [0, 0xFF] ++ leBytes 4 0 ++ [0, 0, 0, 0]
  | some f => [1] ++ leBytes 1 f.slot ++ leBytes 4 f.offset
      ++ [flagByte f.disordered, flagByte f.partFrame, flagByte f.damaged, flagByte f.endMark]

/-- The CURRENT slot with its sequence, stamp, signature and signature-valid flag (R41). -/
def currentBytes (p : SlotPool) (i : Fin 16) : List Byte :=
  match p.currentOf i with
  | none => [0xFF] ++ leBytes 2 0 ++ leBytes 4 0 ++ leBytes 4 0 ++ [0]
  | some n =>
    let x := p.record n
    leBytes 1 n ++ leBytes 2 x.sequence.toNat ++ leBytes 4 x.stamp.toNat ++ leBytes 4 x.signature.toNat
      ++ [flagByte x.sigValid]

/-- Part 0: the Capture Tracker's fields (R41). -/
def State.capturePart (s : State) (i : Fin 16) : List Byte :=
  let st := s.stream i
  let c := st.cap
  leBytes 1 st.cfg.role.code ++ leBytes 1 st.cfg.door ++ [flagByte st.cfg.enabled] ++ fillBytes c.fill
    ++ leBytes 1 c.awaiting ++ leBytes 1 c.heldWrites.length ++ leBytes 1 c.freshness.code
    ++ leBytes 4 (if c.freshness = .live then timeLeft s.time c.timer else 0)
    ++ optionalBytes 2 (c.lastSeq.map BitVec.toNat) ++ leBytes 2 c.missed ++ leBytes 2 c.orphans ++ leBytes 2 c.lost
    ++ currentBytes s.pool i

/-- One slot of part 1; a number that names no record is reported absent (R58, R45, log entry 12). -/
def slotEntry (p : SlotPool) (i : Fin 16) (n : Nat) : List Byte :=
  let x := p.record n
  numberOrNone (if n < p.slots.length then some n else none) ++ leBytes 1 x.life.code ++ [flagByte x.valid]
    ++ leBytes 2 x.sequence.toNat ++ leBytes 4 x.frameSize ++ leBytes 4 x.stamp.toNat ++ leBytes 4 x.signature.toNat
    ++ [flagByte x.sigValid, flagByte x.partFrame] ++ leBytes 1 x.pins ++ [flagByte x.hold.isSome] ++ numberOrNone x.hold
    ++ optionalBytes 1 (placeIn p.free n) ++ optionalBytes 1 (placeIn p.content[i] n)

/-- Part 1: the Slot Pool's fields (R58). -/
def State.slotPart (s : State) (i : Fin 16) : List Byte :=
  let l := (s.stream i).cfg.slotList
  listBytes (slotEntry s.pool i) l ++ leBytes 1 s.pool.free.length ++ leBytes 1 (s.pool.unheldCount l)

/-- The places of a stream's records in the evaluation queue (R74). -/
def Evaluator.places (e : Evaluator) (i : Fin 16) : List Nat :=
  (e.queue.zipIdx.filter (fun x => decide (x.1.stream = i))).map Prod.snd

/-- Part 2: the Statistics Unit's fields (R74). The geometry is the one fixed last, which R62 fixes at every frame start;
in IDLE after a frame start that found no slot it is that lost frame's, although R74 speaks of the last frame measured:
DESIGN CHOICE, log entry 29. -/
def State.statisticsPart (s : State) (i : Fin 16) : List Byte :=
  let a := (s.stream i).acc
  leBytes 1 a.state.code ++ leBytes 2 a.w ++ leBytes 2 a.h ++ leBytes 2 a.tw ++ leBytes 2 a.th
    ++ leBytes 4 (a.total TileSums.pix) ++ leBytes 4 a.incomplete ++ leBytes 2 a.skipped
    ++ optionalBytes 2 (a.lastOffered.map BitVec.toNat) ++ leBytes 4 a.lastComplete ++ leBytes 4 a.lastIncomplete
    ++ listBytes (leBytes 1) (s.evals.places i)

/-- The number of a stream's tiles in a reported state (R95, R77). -/
def Stream.countReported (st : Stream) (code : Nat) : Nat :=
  ((List.finRange 48).filter (fun t => decide (reportedState st.cfg t st.tiles[t] = code))).length

/-- The record in evaluation, when it belongs to the stream (R95). -/
def evaluationBytes (e : Evaluator) (i : Fin 16) : List Byte :=
  match e.current with
  | none => [0, 0, 0, 0]
  | some x => if x.frame.stream = i then [1] ++ leBytes 2 x.frame.sequence.toNat ++ [flagByte x.discard] else [0, 0, 0, 0]

/-- Part 3: the Evaluation Engine's fields (R95). -/
def State.evaluationPart (s : State) (i : Fin 16) : List Byte :=
  let st := s.stream i
  let l := st.lens
  leBytes 1 l.state.code ++ leBytes 2 l.fraction ++ leBytes 1 l.counted ++ leBytes 1 l.blurred
    ++ leBytes 4 l.evaluations ++ leBytes 2 l.inconclusive ++ leBytes 2 l.dark ++ leBytes 2 l.glare
    ++ optionalBytes 2 (l.lastSeq.map BitVec.toNat) ++ evaluationBytes s.evals i
    ++ leBytes 1 (st.countReported 0) ++ leBytes 1 (st.countReported 1) ++ leBytes 1 (st.countReported 2)
    ++ leBytes 1 (st.countReported 3)

/-- The part of READ STREAM STATUS a number names (R180). -/
def State.streamStatus (s : State) (i : Fin 16) : Nat → Option (List Byte)
  | 0 => some (s.capturePart i)
  | 1 => some (s.slotPart i)
  | 2 => some (s.statisticsPart i)
  | 3 => some (s.evaluationPart i)
  | _ => none

def State.doReadStreamStatus (ps : List Byte) (s : State) : State :=
  match index? 16 (field ps 0 1) with
  | none => s.refuse .badParam
  | some i =>
    match s.streamStatus i (field ps 1 1) with
    | none => s.refuse .badParam
    | some data => s.reply .done data

/-- READ_STREAM_STATUS (R180). -/
def execReadStreamStatus (body : List Byte) (s : State) : Host.Outcome State Fault Refusal :=
  .next (s.request (takes 2) body State.doReadStreamStatus)

/-! ### READ SCREEN STATUS -/

/-- One pane of a screen frame (R117). -/
def paneEntry (v : ViewPane) : List Byte :=
  leBytes 1 v.pane.stream.val ++ leBytes 2 v.pane.sx ++ leBytes 2 v.pane.sy ++ leBytes 2 v.pane.sw ++ leBytes 2 v.pane.sh
    ++ leBytes 1 v.pane.k ++ leBytes 2 v.pane.dx ++ leBytes 2 v.pane.dy ++ [flagByte v.pane.mirror, flagByte v.pane.badge]
    ++ numberOrNone v.slot ++ leBytes 1 v.overlay.code

/-- The screen frame, state FF and every other field 0 when there is none (R117, R180). -/
def frameBytes (now : Time) : Option ScreenFrame → List Byte
  | none => [0xFF, 0, 0] ++ leBytes 4 0 ++ [0, 0] ++ leBytes 2 0 ++ leBytes 4 0 ++ [0]
  | some f => [flagByte f.expired] ++ leBytes 1 f.kind.code ++ numberOrNone (f.layout.map Fin.val)
      ++ leBytes 4 f.latched.toNat ++ [flagByte f.endSeen] ++ leBytes 1 f.inFlight ++ leBytes 2 f.accepted
      ++ leBytes 4 (timeLeft now f.timer) ++ listBytes paneEntry f.panes

/-- Whether a kept view is present, with its view kind (R117). -/
def keptBytes : Option KeptView → List Byte
  | none => [0, 0]
  | some v => [1] ++ leBytes 1 v.kind.code

/-- The fields of R117. -/
def State.screenStatus (s : State) (c : Fin 2) : List Byte :=
  let x := s.screen c
  [flagByte x.isSet] ++ leBytes 5 x.base ++ leBytes 2 x.w ++ leBytes 2 x.h ++ leBytes 2 x.timeout
    ++ leBytes 1 x.requested.val ++ leBytes 1 x.prevKind.code ++ frameBytes s.time x.frame ++ keptBytes x.kept
    ++ leBytes 1 x.unlatched ++ leBytes 4 x.latches ++ leBytes 2 x.restarts ++ leBytes 2 x.timeouts
    ++ leBytes 4 x.unlatchedReads ++ leBytes 2 x.faults

def State.doReadScreenStatus (ps : List Byte) (s : State) : State :=
  match index? 2 (field ps 0 1) with
  | none => s.refuse .badParam
  | some c => s.reply .done (s.screenStatus c)

/-- READ_SCREEN_STATUS (R117, R180). -/
def execReadScreenStatus (body : List Byte) (s : State) : Host.Outcome State Fault Refusal :=
  .next (s.request (takes 1) body State.doReadScreenStatus)

/-! ### READ HOLDS -/

/-- One slot of a group (R160). -/
def heldSlotEntry (p : SlotPool) (n : Nat) : List Byte :=
  let x := p.record n
  leBytes 1 n ++ leBytes 2 x.sequence.toNat ++ leBytes 4 x.stamp.toNat ++ leBytes 4 x.signature.toNat
    ++ [flagByte x.sigValid, flagByte x.partFrame]

/-- One group, its number of slots being the entry count of the list of its slots (R160, log entry 11). -/
def groupEntry (p : SlotPool) (g : Group) : List Byte :=
  leBytes 1 g.id ++ leBytes 1 g.cause.code ++ leBytes 1 g.stream.val ++ leBytes 4 g.stamp.toNat ++ leBytes 1 g.post
    ++ listBytes (heldSlotEntry p) g.slots

/-- The review mapping, group id and slot FF and index and flag 0 when there is none (R160, R180). -/
def mappingBytes : Option Mapping → List Byte
  | none => [0xFF, 0, 0xFF, 0]
  | some m => leBytes 1 m.group ++ leBytes 1 m.index ++ leBytes 1 m.slot ++ [flagByte m.autoRelease]

/-- The fields of R160. -/
def State.holdStatus (s : State) : List Byte :=
  leBytes 1 s.holds.total ++ leBytes 1 s.holds.pre ++ leBytes 1 s.holds.post ++ mappingBytes s.holds.mapping
    ++ listBytes (groupEntry s.pool) s.holds.groups

/-- READ_HOLDS (R160, R180). -/
def execReadHolds (body : List Byte) (s : State) : Host.Outcome State Fault Refusal :=
  .next (s.request (takes 0) body (fun _ s => s.reply .done s.holdStatus))

/-! ### READ LINES -/

/-- One line record (R146). -/
def lineEntry (r : LineRecord) : List Byte := [flagByte r.sampled, flagByte r.debounced] ++ leBytes 1 r.run

/-- One side (R146). -/
def State.sideEntry (s : State) (x : Fin 2) : List Byte :=
  let r := s.lines.sides[x]
  [flagByte (s.lines.sideOpen x), flagByte r.timer.isSome] ++ leBytes 4 (timeLeft s.time r.timer)
    ++ listBytes (leBytes 1) r.kept

/-- The decisions for one screen (R146). -/
def LineMonitor.screenEntry (m : LineMonitor) (c : Fin 2) : List Byte :=
  [flagByte (m.doorViewActive c), flagByte (decide (m.reversePlacement = some c))]

/-- The fields of R146. -/
def State.lineStatus (s : State) : List Byte :=
  let m := s.lines
  m.lines.toList.flatMap lineEntry ++ [flagByte m.cabB] ++ s.sideEntry 0 ++ s.sideEntry 1 ++ m.screenEntry 0
    ++ m.screenEntry 1 ++ [flagByte m.reverseActive, flagByte m.hidden] ++ numberOrNone (s.trailingStream.map Fin.val)
    ++ [flagByte m.doorEnable] ++ leBytes 2 m.linger ++ [flagByte m.reverseEnable] ++ leBytes 1 m.preferred.val
    ++ leBytes 2 m.obstructions

/-- READ_LINES (R146, R180). -/
def execReadLines (body : List Byte) (s : State) : Host.Outcome State Fault Refusal :=
  .next (s.request (takes 0) body (fun _ s => s.reply .done s.lineStatus))

/-! ### READ PART -/

/-- The six bytes of READ PART (R180): part code 7A16, revision 1, device mode, pending change, pool set flag. -/
def State.partStatus (s : State) : List Byte :=
  leBytes 2 0x7A16 ++ leBytes 1 1 ++ leBytes 1 s.transit.mode.code ++ leBytes 1 s.transit.change.code
    ++ [flagByte s.pool.isSet]

/-- READ_PART (R180). -/
def execReadPart (body : List Byte) (s : State) : Host.Outcome State Fault Refusal :=
  .next (s.request (takes 0) body (fun _ s => s.reply .done s.partStatus))

end Sys2Proof.Machine
end

