-- ==== Sys2Proof/Machine/Settings.lean ====
section
/-! DEFINITION. The configuration commands: pool, streams, screens, layouts, door and reverse view, soiling, obstruction
holds, notices (R17 to R20, R76, R97 to R100, R134, R142, R153, R168, R169, R176), and RESET BASELINE (R92). -/

namespace Sys2Proof.Machine

/-! ### SET POOL (R176, R45) -/

def State.doSetPool (ps : List Byte) (s : State) : State :=
  let base := field ps 0 5
  let review := field ps 5 5
  let size := field ps 10 4
  let count := field ps 14 1
  if s.transit.mode = .active then s.refuse .state
  else if base % 4096 ≠ 0 ∨ Config.addrEnd ≤ base ∨ review % 4096 ≠ 0 ∨ Config.addrEnd ≤ review
      ∨ size = 0 ∨ size % 4096 ≠ 0 ∨ count < 2 ∨ 64 < count then s.refuse .badParam
  else (s.modPool (fun _ => SlotPool.rebuild base review size count)).reply .done []

/-- SET_POOL. -/
def execSetPool (body : List Byte) (s : State) : Host.Outcome State Fault Refusal :=
  .next (s.request (takes 15) body State.doSetPool)

/-! ### SET STREAM (R17, R18, R91, R177) -/

/-- Another stream has the same door, or the same end role (R17). -/
def State.roleInUse (s : State) (i : Fin 16) (c : StreamConfig) : Bool :=
  (List.finRange 16).any (fun j => decide (j ≠ i)
    && decide (c.role = (s.stream j).cfg.role
        ∧ ((c.role = .door ∧ c.door = (s.stream j).cfg.door) ∨ c.role = .endA ∨ c.role = .endB)))

/-- What R18 refuses in ACTIVE. -/
def StreamConfig.frozenChange (old new : StreamConfig) : Bool :=
  old.enabled || new.enabled
    || decide (old.base ≠ new.base ∨ old.slotList ≠ new.slotList)
    || (decide (old.role = .none) != decide (new.role = .none))

/-- The configuration part is replaced; a changed exclusion is told to the Evaluation Engine (R17, R91). -/
def State.writeStream (s : State) (i : Fin 16) (c : StreamConfig) : State :=
  let old := (s.stream i).cfg
  let s1 := s.modStream i (fun st => { st with cfg := c })
  if old.exRows ≠ c.exRows ∨ old.exCols ≠ c.exCols then s1.relearnLens i else s1

def State.doSetStream (ps : List Byte) (s : State) : State :=
  let p := streamParams ps
  match index? 16 p.stream, roleOf p.role with
  | some i, some role =>
    let c := p.config role
    if p.malformed role then s.refuse .badParam
    else if s.roleInUse i c then s.refuse .inUse
    else if s.transit.mode = .active ∧ (s.stream i).cfg.frozenChange c = true then s.refuse .state
    else (s.writeStream i c).reply .done (leBytes 2 c.ageLimit)
  | _, _ => s.refuse .badParam

/-- SET_STREAM. -/
def execSetStream (body : List Byte) (s : State) : Host.Outcome State Fault Refusal :=
  .next (s.request (takes 27) body State.doSetStream)

/-! ### ENABLE STREAM (R19, R5) -/

/-- The frame size exceeds the committed extent or the slot size (R5). -/
def State.frameTooLarge (s : State) (i : Fin 16) (w : Window) : Bool :=
  let n := frameSizeOf (s.stream i).cfg.w (s.stream i).cfg.h
  decide (w.extent < n ∨ s.pool.size < n)

/-- The enabled flag set; in ACTIVE the running part set too (R19). -/
def State.enable (s : State) (i : Fin 16) : State :=
  s.modStream i (fun st =>
    { st with
      cfg := { st.cfg with enabled := true }
      cap := if s.transit.mode = .active then st.cap.enable else st.cap })

def State.enableChecked (s : State) (i : Fin 16) : State :=
  if (s.stream i).cfg.enabled then s.reply .done [] else (s.enable i).reply .done []

def State.doEnableStream (ps : List Byte) (s : State) : State :=
  match index? 16 (field ps 0 1) with
  | none => s.refuse .badParam
  | some i =>
    let st := s.stream i
    if st.cfg.role = .none then s.refuse .state
    else if s.transit.mode = .active then
      match windowOfStream s.transit.windows i with
      | none => s.refuse .state
      | some w =>
        if st.cfg.enabled = false ∧ 0 < st.cap.awaiting then s.refuse .state
        else if s.frameTooLarge i w then s.refuse .tooLarge
        else s.enableChecked i
    else s.enableChecked i

/-- ENABLE_STREAM. -/
def execEnableStream (body : List Byte) (s : State) : Host.Outcome State Fault Refusal :=
  .next (s.request (takes 1) body State.doEnableStream)

/-! ### DISABLE STREAM (R20, R73, R144) -/

/-- The enabled flag cleared; in ACTIVE the running part stopped (R20), and DOOR_BLIND of its open door (R144). -/
def State.disable (s : State) (i : Fin 16) : State :=
  let s1 := s.modStream i (fun st => { st with cfg := { st.cfg with enabled := false } })
  if s.transit.mode = .active then (s1.stopCapture i).blindStream i 2 else s1

def State.doDisableStream (ps : List Byte) (s : State) : State :=
  match index? 16 (field ps 0 1) with
  | none => s.refuse .badParam
  | some i => if (s.stream i).cfg.enabled then (s.disable i).reply .done [] else s.reply .done []

/-- DISABLE_STREAM. -/
def execDisableStream (body : List Byte) (s : State) : Host.Outcome State Fault Refusal :=
  .next (s.request (takes 1) body State.doDisableStream)

/-! ### SET SCREEN (R97) -/

def State.doSetScreen (ps : List Byte) (s : State) : State :=
  let base := field ps 1 5
  let w := field ps 6 2
  let h := field ps 8 2
  let timeout := clamp 20 1000 (field ps 10 2)
  match index? 2 (field ps 0 1) with
  | none => s.refuse .badParam
  | some c =>
    let x := s.screen c
    if w < 320 ∨ 1920 < w ∨ w % 4 ≠ 0 ∨ h < 240 ∨ 1200 < h ∨ base % 4096 ≠ 0 ∨ Config.addrEnd ≤ base then
      s.refuse .badParam
    else if s.transit.mode = .active ∧ (x.isSet = false ∨ x.base ≠ base ∨ x.w ≠ w ∨ x.h ≠ h) then s.refuse .state
    else (s.modScreen c (fun x => { x with isSet := true, base := base, w := w, h := h, timeout := timeout })).reply
      .done (leBytes 2 timeout)

/-- SET_SCREEN. -/
def execSetScreen (body : List Byte) (s : State) : Host.Outcome State Fault Refusal :=
  .next (s.request (takes 12) body State.doSetScreen)

/-! ### SET LAYOUT (R98, R99) -/

/-- A screen frame with view kind REQUESTED was latched from a layout (R99). -/
def Screen.uses (x : Screen) (m : Fin 16) : Bool :=
  match x.frame with
  | none => false
  | some f => decide (f.kind = .requested ∧ f.layout = some m)

def State.doSetLayout (ps : List Byte) (s : State) : State :=
  match index? 16 (field ps 0 1), layoutOf ps with
  | some m, some l =>
    if ps.length < 5 ∨ 6 < field ps 4 1 ∨ ps.length ≠ 5 + 15 * field ps 4 1
        ∨ l.panes.all (Pane.allowed s.streams) = false then s.refuse .badParam
    else if (s.screen 0).uses m || (s.screen 1).uses m then s.refuse .inUse
    else ({ s with comp := { s.comp with layouts := modAt s.comp.layouts m (fun _ => l) } } : State).reply .done []
  | _, _ => s.refuse .badParam

/-- SET_LAYOUT: its length is checked against the pane count (R98, R175). -/
def execSetLayout (body : List Byte) (s : State) : Host.Outcome State Fault Refusal :=
  .next (s.request (fun _ => true) body State.doSetLayout)

/-! ### SELECT LAYOUT (R100) -/

def State.doSelectLayout (ps : List Byte) (s : State) : State :=
  match index? 2 (field ps 0 1), index? 16 (field ps 1 1) with
  | some c, some m => (s.modScreen c (fun x => { x with requested := m })).reply .done []
  | _, _ => s.refuse .badParam

/-- SELECT_LAYOUT. -/
def execSelectLayout (body : List Byte) (s : State) : Host.Outcome State Fault Refusal :=
  .next (s.request (takes 2) body State.doSelectLayout)

/-! ### SET DOOR VIEW and SET REVERSE VIEW (R134, R142) -/

def State.doSetDoorView (ps : List Byte) (s : State) : State :=
  let enable := field ps 0 1 != 0
  let linger := clamp 0 30000 (field ps 1 2)
  if enable = false ∧ s.lines.openDoors ≠ [] then s.refuse .doorsOpen
  else ((s.modLines (fun m => { m with doorEnable := enable, linger := linger })).recomputeHidden).reply
    .done (leBytes 2 linger)

/-- SET_DOOR_VIEW. -/
def execSetDoorView (body : List Byte) (s : State) : Host.Outcome State Fault Refusal :=
  .next (s.request (takes 3) body State.doSetDoorView)

def State.doSetReverseView (ps : List Byte) (s : State) : State :=
  match index? 2 (field ps 1 1) with
  | none => s.refuse .badParam
  | some c =>
    ((s.modLines (fun m => { m with reverseEnable := field ps 0 1 != 0, preferred := c })).recomputeHidden).reply .done []

/-- SET_REVERSE_VIEW. -/
def execSetReverseView (body : List Byte) (s : State) : Host.Outcome State Fault Refusal :=
  .next (s.request (takes 2) body State.doSetReverseView)

/-! ### SET SOILING (R76) -/

def State.doSetSoiling (ps : List Byte) (s : State) : State :=
  let z := soilingOf ps
  if z.inconsistent then s.refuse .badParam
  else (s.modEvals (fun e => { e with soiling := z })).reply .done z.bytes

/-- SET_SOILING. -/
def execSetSoiling (body : List Byte) (s : State) : Host.Outcome State Fault Refusal :=
  .next (s.request (takes 15) body State.doSetSoiling)

/-! ### SET HOLD (R153) -/

def State.doSetHold (ps : List Byte) (s : State) : State :=
  let pre := clamp 1 4 (field ps 0 1)
  let post := clamp 0 3 (field ps 1 1)
  (s.modHolds (fun t => { t with pre := pre, post := post })).reply .done (leBytes 1 pre ++ leBytes 1 post)

/-- SET_HOLD. -/
def execSetHold (body : List Byte) (s : State) : Host.Outcome State Fault Refusal :=
  .next (s.request (takes 2) body State.doSetHold)

/-! ### SET NOTICE and SET NOTICE MASK (R168, R169) -/

/-- The three settings replaced; the linger due flag is decided anew and NTF_N follows (R166, R168). -/
def NoticeQueue.setTriggers (q : NoticeQueue) (now : Time) (trigger linger : Nat) (immediate : BitVec 21) : NoticeQueue :=
  (({ q with trigger := trigger, linger := linger, immediate := immediate } : NoticeQueue).decideLinger now).driveLine

def State.doSetNotice (ps : List Byte) (s : State) : State :=
  let trigger := clamp 1 32 (field ps 0 1)
  let linger := clamp 1 1000 (field ps 1 2)
  let immediate := BitVec.ofNat 21 (field ps 3 4)
  (s.modNotices (fun q => q.setTriggers s.time trigger linger immediate)).reply
    .done (leBytes 1 trigger ++ leBytes 2 linger ++ leBytes 4 immediate.toNat)

/-- SET_NOTICE. -/
def execSetNotice (body : List Byte) (s : State) : Host.Outcome State Fault Refusal :=
  .next (s.request (takes 7) body State.doSetNotice)

/-- The selected enables take the value bits (R169). -/
def maskedChange (old value select : BitVec 21) : BitVec 21 := (old &&& ~~~ select) ||| (value &&& select)

def State.doSetNoticeMask (ps : List Byte) (s : State) : State :=
  let mask := maskedChange s.notices.enable (BitVec.ofNat 21 (field ps 0 4)) (BitVec.ofNat 21 (field ps 4 4))
  (s.modNotices (fun q => { q with enable := mask })).reply .done (leBytes 4 mask.toNat)

/-- SET_NOTICE_MASK. -/
def execSetNoticeMask (body : List Byte) (s : State) : Host.Outcome State Fault Refusal :=
  .next (s.request (takes 8) body State.doSetNoticeMask)

/-! ### RESET BASELINE (R92, R93) -/

/-- The record in evaluation is marked for discard when it belongs to the stream (R92). -/
def Evaluator.markDiscard (e : Evaluator) (i : Fin 16) : Evaluator :=
  { e with current := e.current.map (fun x => if x.frame.stream = i then { x with discard := true } else x) }

/-- The stream's tiles and lens become LEARNING with zero baselines (R92). -/
def State.resetBaselineOf (s : State) (i : Fin 16) : State :=
  let s1 := (s.modStream i Stream.relearned).modEvals (fun e => e.markDiscard i)
  if (s.stream i).lens.state = .learning then s1 else s1.notify .lensChange i.val 0

def State.doResetBaseline (ps : List Byte) (s : State) : State :=
  match index? 16 (field ps 0 1) with
  | none => s.refuse .badParam
  | some i => (s.resetBaselineOf i).reply .done []

/-- RESET_BASELINE. -/
def execResetBaseline (body : List Byte) (s : State) : Host.Outcome State Fault Refusal :=
  .next (s.request (takes 1) body State.doResetBaseline)

end Sys2Proof.Machine
end

