-- ==== Sys2Proof/Machine/Timers.lean ====
section
/-! DEFINITION. The events of part time: the expiries of the timers (R39, R114, R132, R166), the millisecond step (R184,
R129), and the completion of an evaluation (R80). A timer expires at its stated value of part time and at no other: by its
own command, within the step that reaches the value, or at the latest before the step that would leave it (log entry 8). -/

namespace Sys2Proof.Machine

/-! ### The expiries -/

/-- The freshness timer of stream i expires (R39, R144). STREAM_STALE of the Capture Tracker is sent before DOOR_BLIND of the
Line Monitor; R163 lets notices of two blocks at one instant arrive in either order: DESIGN CHOICE, log entry 30. -/
def State.freshnessExpires (s : State) (i : Fin 16) : State :=
  let st := s.stream i
  let s1 := s.modCapture i (fun c => { c with timer := none })
  if st.cap.freshness = .live then
    ((s1.modCapture i (fun c => { c with freshness := .stale })).notify .streamStale i.val st.cfg.ageLimit).blindStream i 4
  else s1

/-- The frame timer of a screen expires (R114). -/
def State.frameExpires (s : State) (c : Fin 2) (f : ScreenFrame) : State :=
  ((s.modScreen c (fun x =>
    { x with frame := some { f with expired := true, timer := none }, timeouts := satAdd top16 x.timeouts 1 })).notify
      .screenTimeout c.val f.accepted).closeIfServed c

/-- The linger timer of a side expires (R132). -/
def State.lingerExpires (s : State) (x : Fin 2) : State := (s.modSide x (fun _ => ⟨none, []⟩)).recomputeHidden

/-- The linger timer of the notice queue expires (R166). -/
def NoticeQueue.lingerExpires (q : NoticeQueue) : NoticeQueue :=
  ({ q with due := true, timer := none } : NoticeQueue).driveLine

/-- Each expiry is taken when its timer is due, and is no event otherwise (R184, log entries 3 and 8). -/
def State.takeFreshness (s : State) (i : Fin 16) : State :=
  if timerDue s.time (s.stream i).cap.timer then s.freshnessExpires i else s
def State.takeFrame (s : State) (c : Fin 2) : State :=
  match (s.screen c).frame with
  | none => s
  | some f => if !f.expired && timerDue s.time f.timer then s.frameExpires c f else s
def State.takeLinger (s : State) (x : Fin 2) : State :=
  if timerDue s.time s.lines.sides[x].timer then s.lingerExpires x else s
def State.takeNoticeLinger (s : State) : State :=
  if timerDue s.time s.notices.timer then s.modNotices NoticeQueue.lingerExpires else s

/-- FRESHNESS_TIMER_EXPIRY (R39). -/
def execFreshnessTimerExpiry (i : Fin 16) (s : State) : Host.Outcome State Fault Refusal := .next (s.takeFreshness i)

/-- SCREEN_FRAME_TIMER_EXPIRY (R114). -/
def execScreenFrameTimerExpiry (c : Fin 2) (s : State) : Host.Outcome State Fault Refusal := .next (s.takeFrame c)

/-- LINGER_TIMER_EXPIRY (R132). Against a door line of the same millisecond it can fall in either order: after the sample as
this command, or before it as an event that PART_TIME_STEP names (log entry 7). -/
def execLingerTimerExpiry (x : Fin 2) (s : State) : Host.Outcome State Fault Refusal := .next (s.takeLinger x)

/-- NOTICE_LINGER_EXPIRY (R166). -/
def execNoticeLingerExpiry (s : State) : Host.Outcome State Fault Refusal := .next s.takeNoticeLinger

/-! ### The millisecond step -/

/-- The expiries still due when part time is about to leave their value, in the order of the blocks (log entry 8). -/
def State.expireDue (s : State) : State :=
  ((List.finRange 2).foldl State.takeLinger
    ((List.finRange 2).foldl State.takeFrame ((List.finRange 16).foldl State.takeFreshness s))).takeNoticeLinger

/-- One event of a millisecond: a line is sampled, or an expiry is taken if its timer is due (R129, R184). -/
def State.stepEvent (levels : BitVec 15) (s : State) : StepEvent → State
  | .line l => s.sampleLine levels l
  | .freshness i => s.takeFreshness i
  | .frame c => s.takeFrame c
  | .linger x => s.takeLinger x
  | .notice => s.takeNoticeLinger

/-- The events of one millisecond in the order in which they are taken: those named, then the lines not named, in line
order (log entry 7). -/
def stepOrder (order : List StepEvent) : List StepEvent := distinct (order ++ (List.finRange 15).map .line)

/-- The expiries of the millisecond that ends are taken, part time advances by one, and every line is sampled, with the
expiries named among the samples (R129, R184). -/
def State.tick (s : State) (levels : BitVec 15) (order : List StepEvent) : State :=
  (stepOrder order).foldl (State.stepEvent levels) { s.expireDue with time := s.time + 1 }

/-- PART_TIME_STEP. While RESET_N is asserted part time does not advance and no sample is taken (R129, R184). -/
def execPartTimeStep (levels : BitVec 15) (order : List StepEvent) (s : State) : Host.Outcome State Fault Refusal :=
  .next (if s.inReset then s else s.tick levels order)

/-! ### The completion of an evaluation -/

/-- EVALUATION_COMPLETION (R80). -/
def execEvaluationCompletion (s : State) : Host.Outcome State Fault Refusal := .next s.completeEvaluation

end Sys2Proof.Machine
end

