-- ==== Sys2Proof/Machine/Dispatch.lean ====
section
/-! DEFINITION. One arm per command: the meaning each command of the table calls. -/

namespace Sys2Proof.Machine

def exec (i : Instr) (s : State) : Host.Outcome State Fault Refusal :=
  match i with
  | .upstreamReadAccepted q => Sys2Proof.Machine.execUpstreamReadAccepted q s
  | .upstreamWriteAccepted q => Sys2Proof.Machine.execUpstreamWriteAccepted q s
  | .writeDataTaken => Sys2Proof.Machine.execWriteDataTaken s
  | .answerReturned dir id => Sys2Proof.Machine.execAnswerReturned dir id s
  | .downstreamRequestIssued => Sys2Proof.Machine.execDownstreamRequestIssued s
  | .forwardedReadBeat id beat => Sys2Proof.Machine.execForwardedReadBeat id beat s
  | .forwardedWriteResponse id resp => Sys2Proof.Machine.execForwardedWriteResponse id resp s
  | .steeredWriteResponse id resp => Sys2Proof.Machine.execSteeredWriteResponse id resp s
  | .captureReadBeat id beat => Sys2Proof.Machine.execCaptureReadBeat id beat s
  | .reviewReadBeat id beat => Sys2Proof.Machine.execReviewReadBeat id beat s
  | .gatherReadBeat n beat => Sys2Proof.Machine.execGatherReadBeat n beat s
  | .dumpWriteResponse n resp => Sys2Proof.Machine.execDumpWriteResponse n resp s
  | .resetNAsserted => Sys2Proof.Machine.execResetNAsserted s
  | .resetNReleased => Sys2Proof.Machine.execResetNReleased s
  | .partTimeStep levels order => Sys2Proof.Machine.execPartTimeStep levels order s
  | .freshnessTimerExpiry stream => Sys2Proof.Machine.execFreshnessTimerExpiry stream s
  | .evaluationCompletion => Sys2Proof.Machine.execEvaluationCompletion s
  | .screenFrameTimerExpiry screen => Sys2Proof.Machine.execScreenFrameTimerExpiry screen s
  | .lingerTimerExpiry side => Sys2Proof.Machine.execLingerTimerExpiry side s
  | .noticeLingerExpiry => Sys2Proof.Machine.execNoticeLingerExpiry s
  | .response n => Sys2Proof.Machine.execResponse n s
  | .emptyFrame => Sys2Proof.Machine.execEmptyFrame s
  | .unknownCommand code => Sys2Proof.Machine.execUnknownCommand code s
  | .setPool body => Sys2Proof.Machine.execSetPool body s
  | .setStream body => Sys2Proof.Machine.execSetStream body s
  | .enableStream body => Sys2Proof.Machine.execEnableStream body s
  | .disableStream body => Sys2Proof.Machine.execDisableStream body s
  | .setScreen body => Sys2Proof.Machine.execSetScreen body s
  | .setLayout body => Sys2Proof.Machine.execSetLayout body s
  | .selectLayout body => Sys2Proof.Machine.execSelectLayout body s
  | .setDoorView body => Sys2Proof.Machine.execSetDoorView body s
  | .setReverseView body => Sys2Proof.Machine.execSetReverseView body s
  | .setSoiling body => Sys2Proof.Machine.execSetSoiling body s
  | .setHold body => Sys2Proof.Machine.execSetHold body s
  | .setNotice body => Sys2Proof.Machine.execSetNotice body s
  | .setNoticeMask body => Sys2Proof.Machine.execSetNoticeMask body s
  | .commit body => Sys2Proof.Machine.execCommit body s
  | .returnToPass body => Sys2Proof.Machine.execReturnToPass body s
  | .softReset body => Sys2Proof.Machine.execSoftReset body s
  | .resetBaseline body => Sys2Proof.Machine.execResetBaseline body s
  | .hold body => Sys2Proof.Machine.execHold body s
  | .release body => Sys2Proof.Machine.execRelease body s
  | .review body => Sys2Proof.Machine.execReview body s
  | .dumpTiles body => Sys2Proof.Machine.execDumpTiles body s
  | .takeNotices body => Sys2Proof.Machine.execTakeNotices body s
  | .noticeLevel body => Sys2Proof.Machine.execNoticeLevel body s
  | .readStreamStatus body => Sys2Proof.Machine.execReadStreamStatus body s
  | .readScreenStatus body => Sys2Proof.Machine.execReadScreenStatus body s
  | .readHolds body => Sys2Proof.Machine.execReadHolds body s
  | .readLines body => Sys2Proof.Machine.execReadLines body s
  | .readPart body => Sys2Proof.Machine.execReadPart body s

end Sys2Proof.Machine
end

