-- ==== Sys2Proof/Safety.lean ====
section
/-! DEFINITION. What claims speak of: which states hear a request frame, what a response is, and the properties the
manual says hold in every state of the part. -/

namespace Sys2Proof.Machine

/-! ### Requests and responses -/

/-- A request frame is executed: RESET_N is high (R184) and no mode command is PENDING (R173). -/
def State.hears (s : State) : Prop := s.inReset = false ∧ ∀ c, s.port.buffer ≠ .pending c

/-- The state after a request frame of n bytes that ended with a status and data and changed nothing else: the buffer is
READY and MISO carried n zero bytes (R173, section 11.1). -/
def State.responds (s : State) (n : Nat) (st : Status) (data : List Byte) : State :=
  { s with port := { s.port with buffer := .ready st data, miso := List.replicate n 0 } }

/-- A request is accepted at once: RESET_N is high, its direction is below 32 in flight, the part is not DRAINING, and no
request of its direction waits (R2, R13). -/
def State.admits (s : State) (d : Dir) : Prop :=
  s.inReset = false ∧ s.transit.mode ≠ .draining ∧ (∀ x ∈ s.transit.waiting, x.dir ≠ d)
    ∧ match d with
      | .read => s.transit.reads.length < 32
      | .write => s.transit.writes.length < 32

/-- The last steered write of stream i is answered: the one issued for it, and none else of the stream awaits. -/
def State.lastSteered (s : State) (i : Fin 16) (id : TxnId) (key : Nat) (rest : List DownReq) : Prop :=
  (∃ pre post r, s.transit.downIssued = pre ++ r :: post ∧ (∀ y ∈ pre, y.isSteered id = false)
      ∧ r.owner = .steeredWrite key i ∧ r.id = id ∧ r.left = 1 ∧ rest = pre ++ post)
    ∧ (s.stream i).cap.awaiting = 1 ∧ (s.stream i).cap.abandoned = none ∧ (s.stream i).cap.heldWrites = []

/-- The answer at the head of an order list is complete (R3): every beat of a read, or every block of a screen read, has
come; or the data of a write are taken and its response is known. -/
def State.answerable (s : State) : Dir → TxnId → Prop
  | .read, id => ∃ pre post x, s.transit.reads = pre ++ x :: post ∧ (∀ y ∈ pre, y.req.id ≠ id) ∧ x.req.id = id
      ∧ match x.service with
        | .screen r => ∀ b ∈ r.blocks, b.got ≠ none
        | _ => x.req.beats ≤ x.beats.length
  | .write, id => ∃ pre post x, s.transit.writes = pre ++ x :: post ∧ (∀ y ∈ pre, y.req.id ≠ id) ∧ x.req.id = id
      ∧ x.dataTaken = true ∧ x.response ≠ none

/-- The arrival of a request at the upstream port. -/
def PortReq.arrival : PortReq → Instr
  | .read q => .upstreamReadAccepted q
  | .write q => .upstreamWriteAccepted q

/-- Pixel k of a screen read, counted from its first, takes its colour from block `block` of slot n (R101, R104). -/
def ScreenRead.needs (r : ScreenRead) (k n block : Nat) : Prop :=
  ∃ j within dim, pixelOf r.bg r.panes ((r.offset / 4 + k) % r.width) ((r.offset / 4 + k) / r.width)
    = .source j n block within dim

/-- Screen read r of q, accepted with the reads rs before it, is in flight, and waits for one gather of one beat for each
block that one of its pixels needs, and for no other (R104). -/
def State.Serves (s t : State) (rs : List ReadTxn) (q : ReadReq) (r : ScreenRead) : Prop :=
  t.transit.reads = rs ++ [⟨s.transit.nextKey, q, .screen r, []⟩]
    ∧ (r.blocks.map (fun b => (b.slot, b.offset))).Nodup ∧ (∀ b ∈ r.blocks, b.got = none)
    ∧ (∀ n block, (∃ b ∈ r.blocks, b.slot = n ∧ b.offset = block) ↔ ∃ k, k < 4 * q.beats ∧ r.needs k n block)
    ∧ ∃ gathers, t.transit.downWaiting = s.transit.downWaiting ++ gathers
      ∧ gathers.map (fun g => (g.owner, g.dir, g.addr, g.beats, g.left))
        = r.blocks.map (fun b => (.gather s.transit.nextKey b.slot b.offset, .read,
            s.pool.base + b.slot * s.pool.size + b.offset, 1, 1))

/-- Screen read r of `beats` beats takes a pixel from slot n for pane j of its view (R102, R103). -/
def ScreenRead.takes (r : ScreenRead) (beats j n : Nat) : Prop :=
  ∃ k block within dim, k < 4 * beats
    ∧ pixelOf r.bg r.panes ((r.offset / 4 + k) % r.width) ((r.offset / 4 + k) / r.width) = .source j n block within dim

/-- The slots a screen read of `beats` beats takes pixels from, each once, in the order of the first pane of the view that
uses each: the pins it takes, in the order in which they are dropped (R113, R115). -/
def ScreenRead.uses (r : ScreenRead) (beats : Nat) (l : List Nat) : Prop :=
  l.Nodup ∧ (∀ n, n ∈ l ↔ ∃ j, r.takes beats j n)
    ∧ l.Pairwise (fun n m => ∃ j, r.takes beats j n ∧ ∀ k, k ≤ j → ¬r.takes beats k m)

/-- The panes of a view with the stream sizes, overlay codes and slots that the state gives them (R107 to R109). -/
def State.fixPanes (s : State) (ps : List Pane) : List ViewPane :=
  ps.map (fun p => ⟨p, (s.stream p.stream).cfg.w, (s.stream p.stream).cfg.h,
    if s.overlayOf p = .noSignal then none else s.pool.currentOf p.stream, s.overlayOf p⟩)

/-- The view a latch of screen c takes (R106, R107). -/
def State.latchView (s : State) (c : Fin 2) : KeptView :=
  if s.lines.doorViewActive c = true then s.doorView c
  else if s.lines.reversePlacement = some c then s.reverseView c
  else ⟨.requested, s.comp.layouts[(s.screen c).requested].bg, s.comp.layouts[(s.screen c).requested].panes⟩

/-- A screen record after a latch of a view at a moment, with the read that opened it in flight (R106 to R108, R110). -/
def Screen.Latched (x : Screen) (v : KeptView) (panes : List ViewPane) (now : Time) : Screen :=
  { x with
    frame := some {
      expired := false
      kind := v.kind
      layout := if v.kind = .requested then some x.requested else none
      bg := v.bg
      panes := panes
      latched := now
      endSeen := false
      inFlight := 1
      accepted := 1
      timer := some (now + BitVec.ofNat 32 x.timeout) }
    kept := some v
    prevKind := v.kind
    latches := min 4294967295 (x.latches + 1) }

/-- What the Hold Table makes of the new CURRENT slot n of stream i (R154): its groups, the group the slot is held for, and
the groups that are told that they get no further frame. -/
def State.PostFrame (s : State) (i : Fin 16) (n : Nat) (groups : List Group) (held : Option Nat) (cut : List Group) : Prop :=
  ((∀ g ∈ s.holds.groups, ¬(g.stream = i ∧ 0 < g.post)) ∧ groups = s.holds.groups ∧ held = none ∧ cut = [])
    ∨ ∃ pre g post, s.holds.groups = pre ++ g :: post ∧ (∀ x ∈ pre, ¬(x.stream = i ∧ 0 < x.post))
      ∧ g.stream = i ∧ 0 < g.post
      ∧ if s.holds.total < 8 ∧ 2 < s.pool.unheldCount (s.stream i).cfg.slotList then
          groups = pre ++ { g with slots := g.slots ++ [n], post := g.post - 1 } :: post ∧ held = some g.id ∧ cut = []
        else groups = s.holds.groups.map (fun x => if x.stream = i ∧ 0 < x.post then { x with post := 0 } else x)
          ∧ held = none ∧ cut = s.holds.groups.filter (fun x => decide (x.stream = i ∧ 0 < x.post))

/-- The frame record that an accepted frame of stream i gives the evaluation queue (R70). -/
def Stream.Record (st : Stream) (i : Fin 16) (sequence : Seq) (r : FrameRecord) : Prop :=
  r.stream = i ∧ r.sequence = sequence
    ∧ (∀ k : Fin 48, r.edge[k] = st.acc.tiles[k].edge ∧ r.grad[k] = st.acc.tiles[k].grad)
    ∧ r.luma = (st.acc.tiles.toList.map TileSums.luma).sum ∧ r.pix = (st.acc.tiles.toList.map TileSums.pix).sum

/-- The notices of a frame accepted with a sequence: the gap or regress against the last one (R35), and STREAM_LIVE of a
stream that was not LIVE (R39). -/
def State.acceptNotices (s : State) (i : Fin 16) (q : Seq) : NoticeQueue :=
  let checked := match (s.stream i).cap.lastSeq with
    | none => s.notices
    | some last =>
      if q = last + 1 then s.notices
      else if (q - last - 1).toNat < 32768 then s.notices.take s.time .sequenceGap i.val (q - last - 1).toNat
      else s.notices.take s.time .sequenceRegress i.val q.toNat
  if (s.stream i).cap.freshness = .live then checked else checked.take s.time .streamLive i.val q.toNat

/-- A pair of data bytes is the least of those of which p holds: by the first, then by the second (R178). -/
def LeastPair (p : Nat → Nat → Prop) (a b : Nat) : Prop := p a b ∧ ∀ c d, p c d → a < c ∨ a = c ∧ b ≤ d

/-- The seven checks of COMMIT in order: the status of a failure, and which pairs of data bytes name an item that fails
(the table of R178). -/
def State.commitChecks (s : State) : List (Status × (Nat → Nat → Prop)) :=
  [(.state, fun a b => s.pool.isSet = false ∧ a = 255 ∧ b = 255),
    (.badParam, fun a b => ∃ i, (s.stream i).cfg.role ≠ .none ∧ a ∈ (s.stream i).cfg.slotList ∧ s.pool.count ≤ a
      ∧ b = i.val),
    (.inUse, fun a b => ∃ i j : Fin 16, i < j ∧ (s.stream i).cfg.role ≠ .none ∧ (s.stream j).cfg.role ≠ .none
      ∧ a ∈ (s.stream i).cfg.slotList ∧ a ∈ (s.stream j).cfg.slotList ∧ b = i.val),
    (.badAddress, fun a b => ∃ w ∈ s.buildWindows, 68719476736 < w.base + w.extent ∧ a = w.kind.code ∧ b = 255),
    (.overlap, fun a b => ∃ v ∈ s.buildWindows, ∃ w ∈ s.buildWindows, v.kind.code < w.kind.code
      ∧ (∃ n, v.base ≤ n ∧ n < v.base + v.extent ∧ w.base ≤ n ∧ n < w.base + w.extent)
      ∧ a = v.kind.code ∧ b = w.kind.code),
    (.badAddress, fun a b => ∃ d, s.port.dump = some d ∧ ∃ w ∈ s.buildWindows,
      (∃ n, w.base ≤ n ∧ n < w.base + w.extent ∧ d.dest ≤ n ∧ n < d.dest + 400 * (d.last - d.first + 1))
      ∧ a = w.kind.code ∧ b = 254),
    (.tooLarge, fun a b => ∃ i, (s.stream i).cfg.role ≠ .none ∧ (s.stream i).cfg.enabled = true
      ∧ s.pool.size < 64 + 4 * (s.stream i).cfg.w * (s.stream i).cfg.h ∧ a = i.val ∧ b = 255)]

/-- The place of a number in a list as a readout gives it: presence byte, then the place from 0, 0 when absent (R58, R180). -/
def PlaceBytes (l : List Nat) (n : Nat) (bs : List Byte) : Prop :=
  n ∉ l ∧ bs = [0, 0] ∨ ∃ pre post, l = pre ++ n :: post ∧ n ∉ pre ∧ bs = 1 :: leBytes 1 pre.length

/-- The n bytes of a list from an offset on. -/
def bytesAt (l : List Byte) (off n : Nat) : List Byte := (l.drop off).take n

/-- A record of 400 bytes holds the lens and the tiles of stream i as section 11.7 lays them out. -/
def DumpRecordOf (i : Fin 16) (st : Stream) (l : List Byte) : Prop :=
  l.length = 400 ∧ bytesAt l 0 1 = leBytes 1 i.val
    ∧ bytesAt l 1 1 = [match st.lens.state with
      | .learning => 0
      | .clean => 1
      | .suspect => 2
      | .soiled => 3]
    ∧ bytesAt l 2 2 = leBytes 2 st.lens.fraction ∧ bytesAt l 4 1 = leBytes 1 st.lens.counted
    ∧ bytesAt l 5 1 = leBytes 1 st.lens.blurred ∧ bytesAt l 6 2 = [0, 0]
    ∧ bytesAt l 8 4 = leBytes 4 st.lens.evaluations ∧ bytesAt l 12 2 = leBytes 2 st.lens.inconclusive
    ∧ bytesAt l 14 2 = (match st.lens.lastSeq with
      | none => [0, 0]
      | some q => leBytes 2 q.toNat)
    ∧ ∀ t : Fin 48,
      bytesAt l (16 + 8 * t.val) 1 = [if st.cfg.exRows.getLsbD (t.val / 8) = true ∨ st.cfg.exCols.getLsbD (t.val % 8) = true
        then 0 else match st.tiles[t].state with
          | .learning => 1
          | .sharp => 2
          | .blurred => 3]
      ∧ bytesAt l (16 + 8 * t.val + 1) 1 = leBytes 1 (if st.tiles[t].state = .learning then st.tiles[t].learned
          else st.tiles[t].persist)
      ∧ bytesAt l (16 + 8 * t.val + 2) 2 = leBytes 2 st.tiles[t].baseline
      ∧ bytesAt l (16 + 8 * t.val + 4) 2 = leBytes 2 st.tiles[t].lastE
      ∧ bytesAt l (16 + 8 * t.val + 6) 2 = leBytes 2 st.tiles[t].lastQ

/-- Two requests of the downstream port write a record of 400 bytes to an address (R182): 16 beats, and 9 beats behind
them, incrementing, every strobe set, the bytes in order. -/
def WritesRecord (addr : Nat) (record : List Byte) (a b : DownReq) : Prop :=
  (∀ r ∈ [a, b], r.owner = .dump false ∧ r.dir = .write ∧ r.burst = .incrementing ∧ r.left = 1)
    ∧ a.addr = addr ∧ a.beats = 16 ∧ a.data.length = 16 ∧ b.addr = addr + 256 ∧ b.beats = 9 ∧ b.data.length = 9
    ∧ (∀ x ∈ a.data ++ b.data, x.strobes = BitVec.allOnes 16)
    ∧ ∀ k, k < 400 → ∃ x, (a.data ++ b.data)[k / 16]? = some x ∧ record[k]? = some (lineByte x.data (k % 16))

/-- The bytes of a request frame after its code, or none of an event that is no request frame (section 11.1). -/
def requestBody : Instr → Option (List Byte)
  | .setPool b | .setStream b | .enableStream b | .disableStream b | .setScreen b | .setLayout b | .selectLayout b
  | .setDoorView b | .setReverseView b | .setSoiling b | .setHold b | .setNotice b | .setNoticeMask b
  | .commit b | .returnToPass b | .softReset b | .resetBaseline b | .hold b | .release b | .review b | .dumpTiles b
  | .takeNotices b | .noticeLevel b | .readStreamStatus b | .readScreenStatus b | .readHolds b | .readLines b
  | .readPart b => some b
  | .upstreamReadAccepted _ | .upstreamWriteAccepted _ | .writeDataTaken | .answerReturned _ _
  | .downstreamRequestIssued | .forwardedReadBeat _ _ | .forwardedWriteResponse _ _ | .steeredWriteResponse _ _
  | .captureReadBeat _ _ | .reviewReadBeat _ _ | .gatherReadBeat _ _ | .dumpWriteResponse _ _ | .resetNAsserted
  | .resetNReleased | .partTimeStep _ _ | .freshnessTimerExpiry _ | .evaluationCompletion | .screenFrameTimerExpiry _
  | .lingerTimerExpiry _ | .noticeLingerExpiry | .response _ | .emptyFrame | .unknownCommand _ => none

/-- The parameter length of a request command in the table of section 11.2, but for SET LAYOUT (R98, R175). -/
def parameterLength : Instr → Option Nat
  | .setPool _ | .setSoiling _ => some 15
  | .setStream _ => some 27
  | .enableStream _ | .disableStream _ | .resetBaseline _ | .release _ | .takeNotices _ | .readScreenStatus _ => some 1
  | .setScreen _ => some 12
  | .selectLayout _ | .setReverseView _ | .setHold _ | .readStreamStatus _ => some 2
  | .setDoorView _ | .hold _ | .review _ => some 3
  | .setNotice _ | .dumpTiles _ => some 7
  | .setNoticeMask _ => some 8
  | .commit _ | .returnToPass _ | .softReset _ | .noticeLevel _ | .readHolds _ | .readLines _ | .readPart _ => some 0
  | .setLayout _
  | .upstreamReadAccepted _ | .upstreamWriteAccepted _ | .writeDataTaken | .answerReturned _ _
  | .downstreamRequestIssued | .forwardedReadBeat _ _ | .forwardedWriteResponse _ _ | .steeredWriteResponse _ _
  | .captureReadBeat _ _ | .reviewReadBeat _ _ | .gatherReadBeat _ _ | .dumpWriteResponse _ _ | .resetNAsserted
  | .resetNReleased | .partTimeStep _ _ | .freshnessTimerExpiry _ | .evaluationCompletion | .screenFrameTimerExpiry _
  | .lingerTimerExpiry _ | .noticeLingerExpiry | .response _ | .emptyFrame | .unknownCommand _ => none

/-- A request frame after its code: the length byte and the parameters (section 11.1). -/
def frameOf (ps : List Byte) : List Byte := BitVec.ofNat 8 ps.length :: ps

/-- The fifteen bytes of a pane in SET LAYOUT (R98). -/
def Pane.parameters (p : Pane) : List Byte :=
  leBytes 1 p.stream.val ++ leBytes 2 p.sx ++ leBytes 2 p.sy ++ leBytes 2 p.sw ++ leBytes 2 p.sh ++ leBytes 1 p.k
    ++ leBytes 2 p.dx ++ leBytes 2 p.dy
    ++ leBytes 1 ((if p.mirror = true then 1 else 0) + (if p.badge = true then 2 else 0))

/-- The 27 bytes of SET STREAM that ask for a configuration of stream i (R177). -/
def StreamConfig.parameters (i : Fin 16) (c : StreamConfig) : List Byte :=
  leBytes 1 i.val ++ leBytes 1 c.role.code ++ leBytes 1 c.door ++ leBytes 2 c.identity.toNat ++ leBytes 2 c.w
    ++ leBytes 2 c.h ++ leBytes 5 c.base ++ leBytes 1 c.slotList.length
    ++ (c.slotList.map (BitVec.ofNat 8) ++ List.replicate (6 - c.slotList.length) 0)
    ++ leBytes 2 c.ageLimit ++ [flagByte c.mirror] ++ leBytes 1 c.exRows.toNat ++ leBytes 1 c.exCols.toNat
    ++ [flagByte c.enabled]

/-- A configuration part that SET STREAM takes with a role, but for the roles of other streams (R17). -/
def StreamConfig.Takeable (c : StreamConfig) : Prop :=
  c.role ≠ .none ∧ c.door < 256 ∧ (c.role = .door → c.door ≤ 11) ∧ 320 ≤ c.w ∧ c.w ≤ 2048 ∧ c.w % 4 = 0 ∧ 240 ≤ c.h
    ∧ c.h ≤ 1536 ∧ c.base % 4096 = 0 ∧ c.base < 68719476736 ∧ 2 ≤ c.slotList.length ∧ c.slotList.length ≤ 6
    ∧ c.slotList.Nodup ∧ (∀ n ∈ c.slotList, n < 256) ∧ 20 ≤ c.ageLimit ∧ c.ageLimit ≤ 2000

/-- A DOOR stream's door number, or an end role, that another stream has (R17). -/
def State.roleTaken (s : State) (i : Fin 16) (c : StreamConfig) : Prop :=
  ∃ j, j ≠ i ∧ (s.stream j).cfg.role = c.role
    ∧ (c.role = .door ∧ (s.stream j).cfg.door = c.door ∨ c.role = .endA ∨ c.role = .endB)

/-! ### What several events leave -/

/-- The Line Monitor m after one of the events of R141: the hidden flag follows, and REVERSE_HIDDEN is sent when it
rises in ACTIVE or in DRAINING entered from ACTIVE. -/
def State.withLines (s : State) (m : LineMonitor) : State :=
  { s with
    lines := { m with hidden := m.reverseIsHidden }
    notices := if m.reverseIsHidden = true ∧ m.hidden = false
        ∧ (s.transit.mode = .active ∨ s.transit.mode = .draining ∧ s.transit.drainedFrom = .active)
      then s.notices.take s.time .reverseHidden m.preferred.val m.openDoors.length else s.notices }

/-- What R150 makes of a hold of stream i that is not refused: a group with the lowest free id and the h newest
candidates, oldest first, those slots held and no other record changed, and the notices HOLD_MADE and HOLD_CLAMPED. -/
def State.HoldMade (s t : State) (cause : Cause) (i : Fin 16) (pre post id h : Nat) : Prop :=
  t.holds = { s.holds with groups := s.holds.groups
      ++ [⟨id, cause, i, s.time, ((s.pool.candidates i).take h).reverse, post⟩] }
    ∧ (∀ n, t.pool.slots[n]? = if n ∈ (s.pool.candidates i).take h
        then (s.pool.slots[n]?).map (fun x => { x with hold := some id }) else s.pool.slots[n]?)
    ∧ t.pool.content = s.pool.content
    ∧ t.notices = (if h < pre
        then (s.notices.take s.time .holdMade id (256 * i.val + h)).take s.time .holdClamped id (pre - h)
        else s.notices.take s.time .holdMade id (256 * i.val + h))
    ∧ t.transit = s.transit ∧ t.streams = s.streams ∧ t.evals = s.evals ∧ t.comp = s.comp

/-- The number of frames R150 would hold. -/
def State.holdSize (s : State) (i : Fin 16) (pre : Nat) : Nat :=
  min (min pre (s.pool.candidates i).length)
    (min (8 - s.holds.total) (s.pool.unheldCount (s.stream i).cfg.slotList - 2))

/-- f gives a door number the stream that has role DOOR with it and its enabled flag set, or none (R135, R145). -/
def State.DoorStreams (s : State) (f : Nat → Option (Fin 16)) : Prop :=
  (∀ n i, f n = some i → (s.stream i).cfg.role = .door ∧ (s.stream i).cfg.door = n ∧ (s.stream i).cfg.enabled = true)
    ∧ ∀ n, f n = none → ∀ i, ¬((s.stream i).cfg.role = .door ∧ (s.stream i).cfg.door = n ∧ (s.stream i).cfg.enabled = true)

/-- An id is the lowest of 1–8 that no group has (R148). -/
def State.LowestFreeId (s : State) (id : Nat) : Prop :=
  1 ≤ id ∧ id ≤ 8 ∧ (∀ g ∈ s.holds.groups, g.id ≠ id) ∧ ∀ k, 1 ≤ k → k < id → ∃ g ∈ s.holds.groups, g.id = k

/-- A hold of stream i is refused with a cause code: the first test of R150 that applies (log entry 23 for the last). -/
def State.HoldRefused (s : State) (i : Fin 16) (pre code : Nat) : Prop :=
  (∀ k, 1 ≤ k → k ≤ 8 → ∃ g ∈ s.holds.groups, g.id = k) ∧ code = 1
    ∨ (∃ id, s.LowestFreeId id) ∧ s.holdSize i pre = 0
      ∧ code = (if s.pool.candidates i = [] then 2 else if 8 ≤ s.holds.total then 3 else 4)

/-- What R150 makes of one hold, refused or made. -/
def State.HoldDecided (s t : State) (cause : Cause) (i : Fin 16) (pre post : Nat) : Prop :=
  (∀ code, s.HoldRefused i pre code → t = { s with notices := s.notices.take s.time .holdRefused i.val code })
    ∧ ∀ id, s.LowestFreeId id → 0 < s.holdSize i pre → s.HoldMade t cause i pre post id (s.holdSize i pre)
      ∧ t.lines = s.lines ∧ t.port = s.port ∧ t.time = s.time ∧ t.inReset = s.inReset ∧ t.pending = s.pending

/-- One hold after another, each decided on the state the one before it left (R152). -/
def State.HoldsInTurn (s t : State) (cause : Cause) (pre post : Nat) : List (Fin 16) → Prop
  | [] => t = s
  | i :: rest => ∃ u, s.HoldDecided u cause i pre post ∧ u.HoldsInTurn t cause pre post rest

/-- The due flag, the linger timer and NTF_N as R166 and R167 decide them for the record that is oldest now. -/
def NoticeQueue.Decided (q : NoticeQueue) (now : Time) : Prop :=
  (q.records = [] → q.due = false ∧ q.timer = none ∧ q.asserted = false)
    ∧ ∀ r rs, q.records = r :: rs →
      (q.linger ≤ (now - r.stamp).toNat → q.due = true ∧ q.timer = none ∧ q.asserted = true)
      ∧ ((now - r.stamp).toNat < q.linger → q.due = false ∧ q.timer = some (r.stamp + BitVec.ofNat 32 q.linger)
        ∧ (q.asserted = true ↔ q.trigger ≤ q.records.length
          ∨ ∃ x ∈ q.records, x.kind = .doorBlind ∨ q.immediate.getLsbD x.kind.code = true))

/-! ### The bytes of a capture write -/

/-- The strobe of byte n of a write, counted from its start (R1, R21). -/
def writtenStrobe (beats : List WriteBeat) (n : Nat) : Bool :=
  match beats[n / 16]? with
  | none => false
  | some x => x.strobes.getLsbD (n % 16)

/-- Byte n of a write, a byte whose strobe is clear counting as zero (R21, R30). -/
def writtenByte (beats : List WriteBeat) (n : Nat) : Byte :=
  match beats[n / 16]? with
  | none => 0
  | some x => if x.strobes.getLsbD (n % 16) = true then lineByte x.data (n % 16) else 0

/-- The value shifted right n times, each one shifted out combining EDB88320 (R38). -/
def shiftedOut : Nat → BitVec 32 → BitVec 32
  | 0, v => v
  | n + 1, v => shiftedOut n (if v.getLsbD 0 = true then (v >>> 1) ^^^ 0xEDB88320#32 else v >>> 1)

/-- The luma of the pixel whose first byte is byte n of a write, or none when one of its four strobes is clear (R63, R64). -/
def writtenLuma (beats : List WriteBeat) (n : Nat) : Option Nat :=
  if ∀ j < 4, writtenStrobe beats (n + j) = true then
    some (lumaOf (writtenByte beats n).toNat (writtenByte beats (n + 1)).toNat (writtenByte beats (n + 2)).toNat)
  else none

/-! ### Taking a capture write (section 2.3) -/

/-- The free list holds each slot that is FREE, unheld and unpinned, once, and no other (R47). -/
def SlotPool.FreeListExact (p : SlotPool) : Prop :=
  p.free.Nodup ∧ ∀ n, n ∈ p.free ↔ ∃ x, p.slots[n]? = some x ∧ x.life = .free ∧ x.pins = 0 ∧ x.hold = none

/-- The part's free list is exact. -/
def State.FreeListExact (s : State) : Prop := s.pool.FreeListExact

/-- The frame that a start write begins in slot n of a stream: the size fixed, the header fields read, the marks clear and
the signature all ones (R24), and then the write itself taken at a running offset of 0 (R28, R30, R38). -/
def StreamConfig.begun (c : StreamConfig) (n : Nat) (beats : List WriteBeat) : Filling where
  slot := n
  offset := min (16 * beats.length) (64 + 4 * c.w * c.h)
  frameSize := 64 + 4 * c.w * c.h
  identity := headerField beats 0
  sequence := headerField beats 2
  disordered := false
  partFrame := hasClearStrobe 0 (64 + 4 * c.w * c.h) beats
  damaged := false
  endMark := decide (64 + 4 * c.w * c.h ≤ 16 * beats.length)
  signature := crcWrite (BitVec.allOnes 32) 0 (64 + 4 * c.w * c.h) beats

/-- The accumulator set that a frame start clears and fixes the geometry of (R62). -/
def StreamConfig.cleared (c : StreamConfig) (a : Accumulators) (state : Collection) : Accumulators :=
  { a.clearSums with state := state, w := c.w, h := c.h, tw := c.w / 8, th := c.h / 6 }

/-- The redirected write: to the slot base plus its offset, with its id, beats and data (R4, R28). -/
def State.steeredTo (s : State) (i : Fin 16) (n size : Nat) (w : CaptureWrite) : DownReq :=
  ⟨.steeredWrite w.key i, .write, w.id, s.pool.base + n * s.pool.size + w.offset, .incrementing, w.beats.length,
    steeredBeats w.offset size w.beats, 1⟩

/-- Slot n, which stands in the free list behind `pre` and before `post`, is given to a frame of stream i: FILLING with its
content cleared, out of the free list and of the stream's content list, and nothing else changed (R48). -/
def SlotPool.Gives (p p' : SlotPool) (i : Fin 16) (n : Nat) (pre post : List Nat) : Prop :=
  p'.free = pre ++ post ∧ p'.content = modAt p.content i (fun l => l.erase n)
    ∧ (∃ x, p.slots[n]? = some x ∧ p'.slots[n]? = some { x with
        life := .filling, valid := false, sigValid := false, partFrame := false
        sequence := 0, frameSize := 0, stamp := 0, signature := 0 })
    ∧ (∀ m, m ≠ n → p'.slots[m]? = p.slots[m]?)
    ∧ p'.isSet = p.isSet ∧ p'.base = p.base ∧ p'.review = p.review ∧ p'.size = p.size ∧ p'.count = p.count

/-- The write of a name is absorbed with OKAY and counted as an orphan (R31). -/
def State.orphaned (s : State) (i : Fin 16) (key : Nat) : State :=
  { s with
    transit := { s.transit with writes := s.transit.writes.map (fun x =>
      if x.key = key then { x with service := .absorbed, response := some .okay } else x) }
    streams := modAt s.streams i (fun st => { st with
      cap := { st.cap with orphans := min 65535 (st.cap.orphans + 1) } }) }

/-- The frame in progress of stream i is torn (R27): its slot handed back, its statistics dropped, the loss told. -/
def State.torn (s : State) (i : Fin 16) (slot : Nat) : State :=
  { s with
    pool := s.pool.handBack slot
    notices := s.notices.take s.time .frameLost i.val 2
    streams := modAt s.streams i (fun st => { st with
      acc := { st.acc.clearSums with state := .idle }
      cap := { st.cap with fill := none, lost := min 65535 (st.cap.lost + 1) } }) }

/-- A start write taken in IDLE: a frame begins in the first slot of the free list that the stream owns (R24), or is lost for
want of one (R25). -/
def State.FrameStarts (s t : State) (i : Fin 16) (w : CaptureWrite) : Prop :=
  (∀ (n : Nat) (pre post : List Nat), s.pool.free = pre ++ n :: post → (∀ m ∈ pre, s.pool.owns i m = false) →
      s.pool.owns i n = true →
      ∃ p, (s.FreeListExact → s.pool.Gives p i n pre post) ∧ t = { s with
        pool := p
        transit := { s.transit with
          writes := s.transit.writes.map (fun x => if x.key = w.key then { x with service := .steered i } else x)
          downWaiting := s.transit.downWaiting
            ++ [s.steeredTo i n (64 + 4 * (s.stream i).cfg.w * (s.stream i).cfg.h) w] }
        streams := modAt s.streams i (fun st => { st with
          cap := { st.cap with fill := some (st.cfg.begun n w.beats), awaiting := st.cap.awaiting + 1 }
          acc := (st.cfg.cleared st.acc .collecting).takeWrite 0 (64 + 4 * st.cfg.w * st.cfg.h) w.beats }) })
    ∧ ((∀ m ∈ s.pool.free, s.pool.owns i m = false) → t = { s with
        transit := { s.transit with writes := s.transit.writes.map (fun x =>
          if x.key = w.key then { x with service := .absorbed, response := some .okay } else x) }
        notices := s.notices.take s.time .frameLost i.val 1
        streams := modAt s.streams i (fun st => { st with
          cap := { st.cap with lost := min 65535 (st.cap.lost + 1) }
          acc := st.cfg.cleared st.acc .idle }) })

/-- A write of stream i steered into its frame f in order, or out of order (R28 to R30, R38, R69). -/
def State.steered (s : State) (i : Fin 16) (f : Filling) (w : CaptureWrite) : State :=
  { s with
    transit := { s.transit with
      writes := s.transit.writes.map (fun x => if x.key = w.key then { x with service := .steered i } else x)
      downWaiting := s.transit.downWaiting ++ [s.steeredTo i f.slot f.frameSize w] }
    notices := if f.disordered = false ∧ w.offset ≠ f.offset
      then s.notices.take s.time .frameDisordered i.val f.sequence.toNat else s.notices
    streams := modAt s.streams i (fun st => { st with
      cap := { st.cap with
        awaiting := st.cap.awaiting + 1
        fill := some { f with
          offset := min (w.offset + 16 * w.beats.length) f.frameSize
          disordered := f.disordered || decide (w.offset ≠ f.offset)
          partFrame := f.partFrame || hasClearStrobe w.offset f.frameSize w.beats
          endMark := f.endMark || decide (f.frameSize ≤ w.offset + 16 * w.beats.length)
          signature := if f.disordered = false ∧ w.offset = f.offset
            then crcWrite f.signature w.offset f.frameSize w.beats else f.signature } }
      acc := if f.disordered = true then st.acc
        else if w.offset = f.offset then st.acc.takeWrite w.offset f.frameSize w.beats
        else { st.acc.clearSums with state := .dropped } }) }

/-- A write of stream i is taken under the rule that fits it (R21, R24 to R31). -/
def State.WriteTaken (s t : State) (i : Fin 16) (w : CaptureWrite) : Prop :=
  ((s.stream i).cfg.enabled = false → t = s.orphaned i w.key)
    ∧ ((s.stream i).cfg.enabled = true →
      ((s.stream i).cap.fill = none → 0 < w.offset → t = s.orphaned i w.key)
      ∧ ((s.stream i).cap.fill = none → w.offset = 0 → s.FrameStarts t i w)
      ∧ ∀ f, (s.stream i).cap.fill = some f →
        (w.offset = 0 → (s.torn i f.slot).FrameStarts t i w)
        ∧ (0 < w.offset → f.frameSize ≤ w.offset → t = s.orphaned i w.key)
        ∧ (0 < w.offset → w.offset < f.frameSize → t = s.steered i f w))

/-- A write must wait for the steered writes that await: behind the end mark, or to tear (R22). -/
def Capture.Waits (c : Capture) (w : CaptureWrite) : Prop :=
  ∃ f, c.fill = some f ∧ 0 < c.awaiting ∧ (f.endMark = true ∨ w.offset = 0)

/-- Held writes are taken from the head, one after another, each in the state that the one before it left, until none is left
or the next must wait; that one and those behind it stay held (R23). -/
def State.TakesInTurn (s t : State) (i : Fin 16) : List CaptureWrite → Prop
  | [] => t = s
  | w :: rest =>
    ((s.stream i).cap.Waits w → t = { s with
      streams := modAt s.streams i (fun st => { st with cap := { st.cap with heldWrites := w :: rest } }) })
    ∧ (¬(s.stream i).cap.Waits w → ∃ u, s.WriteTaken u i w ∧ u.TakesInTurn t i rest)

/-! ### A millisecond -/

/-- No timer expires at a value of part time. -/
def State.NoneDue (s : State) (now : Time) : Prop :=
  (∀ i, (s.stream i).cap.timer ≠ some now)
    ∧ (∀ c f, (s.screen c).frame = some f → f.expired = false → f.timer ≠ some now)
    ∧ (∀ x : Fin 2, s.lines.sides[x].timer ≠ some now) ∧ s.notices.timer ≠ some now

/-- A sample in which only line l makes a debounced change: every other line is sampled at its debounced level, and
line l differs from its own for the third time (R129). -/
def State.onlyChange (s : State) (levels : BitVec 15) (l : Fin 15) : Prop :=
  s.inReset = false ∧ levels.getLsbD l.val = !s.lines.lines[l].debounced ∧ s.lines.lines[l].run = 2
    ∧ ∀ k : Fin 15, k ≠ l → levels.getLsbD k.val = s.lines.lines[k].debounced

/-! ### What holds in every state -/

/-- At most 32 reads and 32 writes are in flight (R2). -/
def State.InFlightBounded (s : State) : Prop := s.transit.reads.length ≤ 32 ∧ s.transit.writes.length ≤ 32

/-- A change is pending, and its command is executing, exactly in DRAINING; a drain that stands has a transaction in
flight, unless RESET_N has cut it off (R13, R14, R15, R173). -/
def State.DrainConsistent (s : State) : Prop :=
  (s.transit.mode = .draining ↔ s.transit.change ≠ .none)
    ∧ (s.transit.mode = .draining ↔ s.port.buffer = .pending s.transit.change)
    ∧ (∀ c, s.port.buffer = .pending c → s.transit.mode = .draining)
    ∧ (s.inReset = false → s.transit.mode = .draining → s.transit.reads ≠ [] ∨ s.transit.writes ≠ [])

/-- The map is empty in PASS, and in a drain that was entered from PASS (R5). -/
def State.MapEmptyInPass (s : State) : Prop :=
  (s.transit.mode = .pass → s.transit.windows = [])
    ∧ (s.transit.mode = .draining → s.transit.drainedFrom = .pass → s.transit.windows = [])

/-- Every running timer expires at a value of part time still to come, or at the present one, no further ahead than its
limit (R184, with the limits of R17, R97, R134 and R168): so none is ever stepped past. -/
def State.TimersAhead (s : State) : Prop :=
  (∀ i, (s.stream i).cfg.ageLimit ≤ 2000 ∧ ∀ e, (s.stream i).cap.timer = some e → (e - s.time).toNat ≤ 2000)
    ∧ (∀ c, (s.screen c).timeout ≤ 1000 ∧ ∀ f e, (s.screen c).frame = some f → f.timer = some e →
        f.expired = false ∧ (e - s.time).toNat ≤ 1000)
    ∧ s.lines.linger ≤ 30000 ∧ (∀ (x : Fin 2) (e : Time), s.lines.sides[x].timer = some e → (e - s.time).toNat ≤ 30000)
    ∧ s.notices.linger ≤ 1000 ∧ ∀ e, s.notices.timer = some e → (e - s.time).toNat ≤ 1000

/-- A freshness timer runs exactly while its stream is LIVE (R39, R40). -/
def State.FreshnessTimed (s : State) : Prop :=
  ∀ i : Fin 16, (s.stream i).cap.timer.isSome = true ↔ (s.stream i).cap.freshness = .live

/-- The evaluation queue holds at most 4 records, and none while the engine is IDLE (R71, R72, R79). -/
def State.EvaluationQueued (s : State) : Prop :=
  s.evals.queue.length ≤ 4 ∧ (s.evals.current = none → s.evals.queue = [])

/-- Each of 48 edge sums is at most 255 times its gradient count. -/
def FrameRecord.EdgesBounded (r : FrameRecord) : Prop := ∀ t : Fin 48, r.edge[t] ≤ 255 * r.grad[t]

/-- B and E stay within 0–65280 and Q within 0–1023, for every tile, with the bounds on gradients and lumas this rests
on (R67, R82). -/
def State.EnergiesBounded (s : State) : Prop :=
  (∀ (i : Fin 16) (t : Fin 48), (s.stream i).tiles[t].baseline ≤ 65280 ∧ (s.stream i).tiles[t].lastE ≤ 65280
      ∧ (s.stream i).tiles[t].lastQ ≤ 1023)
    ∧ (∀ (i : Fin 16) (t : Fin 48), (s.stream i).acc.tiles[t].edge ≤ 255 * (s.stream i).acc.tiles[t].grad)
    ∧ (∀ (i : Fin 16) (y p : Nat), (s.stream i).acc.carried = some (y, p) → y ≤ 255)
    ∧ (∀ r ∈ s.evals.queue, r.EdgesBounded)
    ∧ (∀ x, s.evals.current = some x → x.frame.EdgesBounded)

/-- A lens is LEARNING whenever fewer than 8 of its non-excluded tiles have completed learning (R91). -/
def State.LensNeedsEightTiles (s : State) : Prop :=
  ∀ i : Fin 16, countTiles (s.stream i).cfg (s.stream i).tiles Tile.past < 8 → (s.stream i).lens.state = .learning

/-- The hidden flag is set exactly while the reverse view is active and has no screen (R140, R141). Between the edges of
RESET_N the timers are stopped and the flag is not recomputed. -/
def State.HiddenFlagExact (s : State) : Prop := s.inReset = false → s.lines.hidden = s.lines.reverseIsHidden

/-- The held slots number at most 8, every group id lies in 1–8, and no two groups share one (R148, R149). -/
def State.HoldsBounded (s : State) : Prop :=
  s.holds.total ≤ 8 ∧ (∀ g ∈ s.holds.groups, 1 ≤ g.id ∧ g.id ≤ 8) ∧ (s.holds.groups.map Group.id).Nodup

/-- The queue holds at most 32 records; repeat counts lie in 1–255; two adjacent records share a coalescing kind and a
subject only when the older has 255 repeats or the newer a lost-before count above 0 (R163). -/
def State.NoticesCoalesced (s : State) : Prop :=
  s.notices.records.length ≤ 32
    ∧ (∀ r ∈ s.notices.records, 1 ≤ r.repeats ∧ r.repeats ≤ 255)
    ∧ ∀ (k : Nat) (a b : Notice), s.notices.records[k]? = some a → s.notices.records[k + 1]? = some b →
        a.kind.coalescing = true → a.kind = b.kind → a.subject = b.subject → a.repeats = 255 ∨ 0 < b.lostBefore

/-- NTF_N is asserted exactly while the queue is not empty and the count is at least the trigger level, or the due flag
is set, or a record of an immediate kind is queued (R167). -/
def State.NtfFollows (s : State) : Prop :=
  s.notices.asserted = true ↔
    s.notices.records ≠ [] ∧ (s.notices.trigger ≤ s.notices.records.length ∨ s.notices.due = true
      ∨ ∃ r ∈ s.notices.records, r.kind = .doorBlind ∨ s.notices.immediate.getLsbD r.kind.code = true)

/-- A property that a step keeps from every state. -/
def KeptByEveryStep (p : State → Prop) : Prop := ∀ s t, p s → step s = .next t → p t

end Sys2Proof.Machine
end

