-- ==== Sys2Proof/Certificates/Slice0/Obligations.lean ====
section
/-! DEFINITION. The statements about the model, each with the rules of spec/ it formalises. -/

open Sys2Proof Sys2Proof.Machine

/-! ### The queue of commands -/

/-- A step runs the command at the front of the queue on the state with the rest of the queue; on an empty queue the
part idles (the idle step is the model's choice, log entry 22). -/
def Obligations.StepRunsTheFrontCommand : Prop :=
  ∀ s : State, (s.pending = [] → step s = .next s)
    ∧ ∀ c rest, s.pending = c :: rest → step s = exec c { s with pending := rest }

/-- Every term that is an event of the manual is taken in every state and leaves the queue of commands alone; every other
term is refused (a beat count off 1–16, a RESPONSE of no byte, a known code as unknown: log entry 14); nothing faults. -/
def Obligations.EveryEventIsTaken : Prop :=
  ∀ (c : Instr) (s : State), (c.wf = true → ∃ t, exec c s = .next t ∧ t.pending = s.pending)
    ∧ (c.wf = false → ∃ r, exec c s = .refused r)

/-! ### Transit Path -/

/-- R11, R12: in PASS every request, and in ACTIVE a PLAIN one, is accepted and formed downstream with its own id,
address, burst kind, beats, strobes and data, behind those formed before it; nothing else changes.
R2, R13: at 32 in flight, or in DRAINING, a request waits at the port, neither answered nor refused, and nothing else
changes; each direction has its own count. (That a waiting request stands in the state is the model's, log entry 2.) -/
def Obligations.PlainRequestsAreForwardedOrWait : Prop :=
  ((∀ (s : State) (q : ReadReq), q.wf = true → s.admits .read →
      (s.transit.mode = .pass
        ∨ decodeAccess s.transit.windows s.pool.size q.addr.toNat q.burst q.beats = .plain) →
      exec (.upstreamReadAccepted q) s = .next { s with transit := { s.transit with
        reads := s.transit.reads ++ [⟨s.transit.nextKey, q, .forwarded, []⟩]
        nextKey := s.transit.nextKey + 1
        downWaiting := s.transit.downWaiting
          ++ [⟨.forwardedRead s.transit.nextKey, .read, q.id, q.addr.toNat, q.burst, q.beats, [], q.beats⟩] } })
    ∧ ∀ (s : State) (q : WriteReq), q.wf = true → s.admits .write →
      (s.transit.mode = .pass
        ∨ decodeAccess s.transit.windows s.pool.size q.addr.toNat q.burst q.beats.length = .plain) →
      exec (.upstreamWriteAccepted q) s = .next { s with transit := { s.transit with
        writes := s.transit.writes ++ [⟨s.transit.nextKey, q, .forwarded, false, none⟩]
        nextKey := s.transit.nextKey + 1
        downWaiting := s.transit.downWaiting
          ++ [⟨.forwardedWrite s.transit.nextKey, .write, q.id, q.addr.toNat, q.burst, q.beats.length, q.beats, 1⟩] } })
    ∧ (∀ s : State, s.inReset = false →
    (∀ q : ReadReq, q.wf = true → (s.transit.mode = .draining ∨ 32 ≤ s.transit.reads.length) →
      exec (.upstreamReadAccepted q) s
        = .next { s with transit := { s.transit with waiting := s.transit.waiting ++ [.read q] } })
    ∧ ∀ q : WriteReq, q.wf = true → (s.transit.mode = .draining ∨ 32 ≤ s.transit.writes.length) →
      exec (.upstreamWriteAccepted q) s
        = .next { s with transit := { s.transit with waiting := s.transit.waiting ++ [.write q] } })

/-- R7 to R9, byte by byte. A transaction is a split access exactly when some byte it covers lies outside the region of
its start address: outside the window that holds the start, or, with none, inside a window or above FFFFFFFFF. When it is
not, the pool gives a guard hit with the slot number, and another window refuses a wrapping or misaligned access.
R10, R21: an access that passes goes to the stream, the screen or the review aperture of its window, with its start address
less the window base as offset.
R1: what a transaction covers. R7: the region of an address is the first window of the map that holds it, or none. -/
def Obligations.DecodeTestsAreByteExact : Prop :=
  ∀ (ws : List Window) (size a beats : Nat) (burst : Burst), 1 ≤ beats →
    (decodeAccess ws size a burst beats = .split ↔
      ∃ b, (covered a burst beats).1 ≤ b ∧ b < (covered a burst beats).2
        ∧ match regionOf ws a with
          | some w => ¬(w.base ≤ b ∧ b < w.base + w.extent)
          | none => 68719476735 < b ∨ ∃ w ∈ ws, w.base ≤ b ∧ b < w.base + w.extent)
    ∧ (decodeAccess ws size a burst beats ≠ .split → match regionOf ws a with
        | none => decodeAccess ws size a burst beats = .plain
        | some w =>
          if w.kind = .pool then decodeAccess ws size a burst beats = .guardHit ((a - w.base) / size)
          else (decodeAccess ws size a burst beats = .refused ↔ burst = .wrapping ∨ a % 16 ≠ 0)
            ∧ (burst = .incrementing → a % 16 = 0 → ∀ o, o = a - w.base →
              (∀ i, w.kind = .capture i → decodeAccess ws size a burst beats = .capture i o)
              ∧ (∀ c, w.kind = .screen c → decodeAccess ws size a burst beats = .screen c o)
              ∧ (w.kind = .review → decodeAccess ws size a burst beats = .review o)))
    ∧ (burst = .incrementing → covered a burst beats = (a, a - a % 16 + 16 * beats))
    ∧ (burst = .wrapping → (covered a burst beats).1 % (16 * beats) = 0 ∧ (covered a burst beats).1 ≤ a
      ∧ a < (covered a burst beats).2 ∧ (covered a burst beats).2 = (covered a burst beats).1 + 16 * beats)
    ∧ (∀ w, regionOf ws a = some w ↔ ∃ pre post, ws = pre ++ w :: post ∧ w.base ≤ a ∧ a < w.base + w.extent
      ∧ ∀ v ∈ pre, ¬(v.base ≤ a ∧ a < v.base + v.extent))
    ∧ (regionOf ws a = none ↔ ∀ w ∈ ws, ¬(w.base ≤ a ∧ a < w.base + w.extent))

/-- R7, R8, R9, R10, R105: a refused read is answered with zero beats and ERROR and a refused write with ERROR, by the
part; it counts in flight, is not forwarded, and sends SPLIT_ACCESS with its id, GUARD_HIT with the slot, or no notice.
Writes to a screen aperture and to the review aperture are refused without notice. -/
def Obligations.RefusedRequestsAreAnsweredError : Prop :=
  (∀ (s : State) (q : ReadReq), q.wf = true → s.admits .read → s.transit.mode = .active →
      ∀ notices : NoticeQueue,
      (match decodeAccess s.transit.windows s.pool.size q.addr.toNat q.burst q.beats with
        | .split => notices = s.notices.take s.time .splitAccess 0 q.id.toNat
        | .guardHit n => notices = s.notices.take s.time .guardHit 0 n
        | .refused => notices = s.notices
        | _ => False) →
      exec (.upstreamReadAccepted q) s = .next { s with
        notices := notices
        transit := { s.transit with
          reads := s.transit.reads ++ [⟨s.transit.nextKey, q, .answered, List.replicate q.beats ⟨0, .error⟩⟩]
          nextKey := s.transit.nextKey + 1 } })
    ∧ ∀ (s : State) (q : WriteReq), q.wf = true → s.admits .write → s.transit.mode = .active →
      ∀ notices : NoticeQueue,
      (match decodeAccess s.transit.windows s.pool.size q.addr.toNat q.burst q.beats.length with
        | .split => notices = s.notices.take s.time .splitAccess 0 q.id.toNat
        | .guardHit n => notices = s.notices.take s.time .guardHit 0 n
        | .refused | .screen _ _ | .review _ => notices = s.notices
        | _ => False) →
      exec (.upstreamWriteAccepted q) s = .next { s with
        notices := notices
        transit := { s.transit with
          writes := s.transit.writes ++ [⟨s.transit.nextKey, q, .refused, false, some .error⟩]
          nextKey := s.transit.nextKey + 1 } }

/-- R1, R3: the data of the oldest write still outstanding are taken (an event of its own by log entry 1). An answer is
returned from the head of the order list of its id and direction once it is complete, and leaves the list; a read served
from a slot drops its pin then (R53). A head that is not complete keeps its place and everything behind it waits.
R14, R15: in DRAINING the return of the last answer in flight completes the drain: the mode and the map follow the pending
change, no change is pending, and its command answers DONE; an earlier one leaves the drain standing.
R152, R161, R162: the groups then standing, one made during the drain among them, go. At a RETURN TO PASS each is discarded,
oldest first, with HOLD_RELEASED, its id and 768 plus its slot count, behind the notices the return itself sends; at a SOFT
RESET none is sent and the queue is emptied; a COMMIT changes neither table. What the return itself does is what it does
outside a drain.
R2: a request that waits at the port is accepted when an answer is returned, after those that waited longer, as one that
arrives then (within the event that makes room for it: log entry 2). -/
def Obligations.AnswersReturnInOrder : Prop :=
  (∀ (s : State) (pre post : List WriteTxn) (x : WriteTxn), s.transit.writes = pre ++ x :: post →
      (∀ y ∈ pre, y.dataTaken = true) → x.dataTaken = false →
      exec .writeDataTaken s
        = .next { s with transit := { s.transit with writes := pre ++ { x with dataTaken := true } :: post } })
    ∧ (∀ (s : State) (id : TxnId) (pre post : List ReadTxn) (x : ReadTxn), s.transit.reads = pre ++ x :: post →
      (∀ y ∈ pre, y.req.id ≠ id) → x.req.id = id → (∀ r, x.service ≠ .screen r) →
      (x.beats.length < x.req.beats → exec (.answerReturned .read id) s = .next s)
      ∧ (x.req.beats ≤ x.beats.length → s.transit.mode ≠ .draining → s.transit.waiting = [] →
        (∀ a b c d e, x.service ≠ .review a b c d e) →
        exec (.answerReturned .read id) s = .next { s with
          pool := match x.service with
            | .capture slot _ _ => s.pool.unpin slot
            | _ => s.pool
          transit := { s.transit with reads := pre ++ post, lastAnswer := some (.read id x.beats) } }))
    ∧ (∀ (s : State) (id : TxnId) (pre post : List WriteTxn) (x : WriteTxn), s.transit.writes = pre ++ x :: post →
      (∀ y ∈ pre, y.req.id ≠ id) → x.req.id = id →
      (x.response = none ∨ x.dataTaken = false → exec (.answerReturned .write id) s = .next s)
      ∧ ∀ resp, x.response = some resp → x.dataTaken = true → s.transit.mode ≠ .draining → s.transit.waiting = [] →
        exec (.answerReturned .write id) s = .next { s with
          transit := { s.transit with writes := pre ++ post, lastAnswer := some (.write id resp) } })
    ∧ (∀ (s : State) (dir : Dir) (id : TxnId), s.answerable dir id → s.transit.mode = .draining →
      s.transit.change ≠ .none → s.transit.waiting = [] →
      ∃ t, exec (.answerReturned dir id) s = .next t
        ∧ (s.transit.reads.length + s.transit.writes.length = 1 →
          t.transit.mode = (if s.transit.change = .enterActive then .active else .pass) ∧ t.transit.change = .none
          ∧ t.transit.windows = (if s.transit.change = .enterActive then s.buildWindows else [])
          ∧ t.transit.reads = [] ∧ t.transit.writes = [] ∧ t.port.buffer = .ready .done []
          ∧ (∀ i : Fin 16, t.pool.content[i] = [])
          ∧ (∀ i, (t.stream i).cap.fill = none ∧ (t.stream i).cap.freshness = .noSignal)
          ∧ (s.inReset = false → s.HiddenFlagExact → ∀ u,
            exec (.answerReturned dir id) { s with transit := { s.transit with mode := .active } } = .next u →
            t.holds = (if s.transit.change = .enterActive then u.holds else { u.holds with groups := [], mapping := none })
            ∧ t.notices = match s.transit.change with
              | .returnToPass =>
                u.holds.groups.foldl (fun q g => q.take s.time .holdReleased g.id (768 + g.slots.length)) u.notices
              | .softReset =>
                { u.notices with records := [], lost := 0, due := false, timer := none, asserted := false }
              | _ => u.notices))
        ∧ (2 ≤ s.transit.reads.length + s.transit.writes.length →
          t.transit.mode = .draining ∧ t.transit.change = s.transit.change ∧ t.port = s.port))
    ∧ ∀ (s t : State) (dir : Dir) (id : TxnId) (ws : List PortReq) (r : PortReq), s.inReset = false →
      s.answerable dir id → r.arrival.wf = true → s.transit.waiting = ws ++ [r] →
      exec (.answerReturned dir id) { s with transit := { s.transit with waiting := ws } } = .next t →
      exec (.answerReturned dir id) s = exec r.arrival t

/-- R4, R11: the DRAM controller accepts the oldest waiting request. A read beat or a write response goes to the oldest
issued forwarded transaction of its id, unaltered, with its own response; that request is counted down, and leaves at its
last beat. (That answers are matched by id in the order of issue is the model's reading, log entry 4.) A beat or a response
of any kind that matches no issued transaction is discarded: the model's reading, log entry 3; the manual says it in R16,
section 1.4, of the answers to transactions that RESET_N has cut off, for which PinResetClearsThePart has it. -/
def Obligations.DownstreamPortMatchesAnswers : Prop :=
  (∀ (s : State) (r : DownReq) (rest : List DownReq), s.transit.downWaiting = r :: rest →
      exec .downstreamRequestIssued s = .next { s with transit := { s.transit with
        downWaiting := rest
        downIssued := s.transit.downIssued ++ [r] } })
    ∧ (∀ (s : State) (id : TxnId) (beat : ReadBeat) (key : Nat) (pre post : List DownReq) (r : DownReq),
      s.transit.downIssued = pre ++ r :: post → (∀ y ∈ pre, y.isForwardedRead id = false) →
      r.owner = .forwardedRead key → r.id = id →
      exec (.forwardedReadBeat (.sinceReset id) beat) s = .next { s with transit := { s.transit with
        downIssued := pre ++ (if r.left ≤ 1 then post else { r with left := r.left - 1 } :: post)
        reads := s.transit.reads.map (fun x => if x.key = key then { x with beats := x.beats ++ [beat] } else x) } })
    ∧ (∀ (s : State) (id : TxnId) (resp : Resp) (key : Nat) (pre post : List DownReq) (r : DownReq),
      s.transit.downIssued = pre ++ r :: post → (∀ y ∈ pre, y.isForwardedWrite id = false) →
      r.owner = .forwardedWrite key → r.id = id → r.left = 1 →
      exec (.forwardedWriteResponse (.sinceReset id) resp) s = .next { s with transit := { s.transit with
        downIssued := pre ++ post
        writes := s.transit.writes.map (fun x => if x.key = key then { x with response := some resp } else x) } })
    ∧ ∀ (s : State) (id : TxnId) (beat : ReadBeat) (resp : Resp) (n : Nat),
      ((∀ y ∈ s.transit.downIssued, y.isForwardedRead id = false) → exec (.forwardedReadBeat (.sinceReset id) beat) s = .next s)
      ∧ ((∀ y ∈ s.transit.downIssued, y.isForwardedWrite id = false) →
        exec (.forwardedWriteResponse (.sinceReset id) resp) s = .next s)
      ∧ ((∀ y ∈ s.transit.downIssued, y.isSteered id = false) → exec (.steeredWriteResponse (.sinceReset id) resp) s = .next s)
      ∧ ((∀ y ∈ s.transit.downIssued, y.isCapture id = false) → exec (.captureReadBeat (.sinceReset id) beat) s = .next s)
      ∧ ((∀ y ∈ s.transit.downIssued, y.isReview id = false) → exec (.reviewReadBeat (.sinceReset id) beat) s = .next s)
      ∧ ((s.transit.downIssued.filter DownReq.isGather).length ≤ n → exec (.gatherReadBeat (.sinceReset n) beat) s = .next s)
      ∧ ((s.transit.downIssued.filter DownReq.isDump).length ≤ n → exec (.dumpWriteResponse (.sinceReset n) resp) s = .next s)

/-! ### Capture Tracker and Slot Pool -/

/-- R56, R157: a read of a capture window goes to the stream's CURRENT slot, and a read of the review aperture to the
mapped slot. With no slot it is answered zero with ERROR; at or beyond the slot's frame size, zero with OKAY; else the slot
is pinned and the read redirected to the slot base plus the offset with its id, burst kind and beats.
R57, R157: a beat of a read served from a slot is returned with the data and the response the downstream port gave it
when it starts below the slot's frame size, and as 16 zero bytes with OKAY at or beyond it. No notice is sent and no slot
record changes. (That a beat belongs to the oldest issued request of its kind and id is the model's reading, log entry 4.) -/
def Obligations.SlotReadsAreServedFromTheirSlot : Prop :=
  ((∀ (s : State) (q : ReadReq) (i : Fin 16) (o : Nat), q.wf = true → s.admits .read → s.transit.mode = .active →
      decodeAccess s.transit.windows s.pool.size q.addr.toNat q.burst q.beats = .capture i o →
      exec (.upstreamReadAccepted q) s = .next (match s.pool.currentOf i with
        | none => { s with transit := { s.transit with
            reads := s.transit.reads ++ [⟨s.transit.nextKey, q, .answered, List.replicate q.beats ⟨0, .error⟩⟩]
            nextKey := s.transit.nextKey + 1 } }
        | some c =>
          if (s.pool.record c).frameSize ≤ o then { s with transit := { s.transit with
            reads := s.transit.reads ++ [⟨s.transit.nextKey, q, .answered, List.replicate q.beats ⟨0, .okay⟩⟩]
            nextKey := s.transit.nextKey + 1 } }
          else { s with
            pool := s.pool.pin c
            transit := { s.transit with
              reads := s.transit.reads ++ [⟨s.transit.nextKey, q, .capture c o (s.pool.record c).frameSize, []⟩]
              nextKey := s.transit.nextKey + 1
              downWaiting := s.transit.downWaiting ++ [⟨.captureRead s.transit.nextKey, .read, q.id,
                s.pool.base + c * s.pool.size + o, q.burst, q.beats, [], q.beats⟩] } }))
    ∧ ∀ (s : State) (q : ReadReq) (o : Nat), q.wf = true → s.admits .read → s.transit.mode = .active →
      decodeAccess s.transit.windows s.pool.size q.addr.toNat q.burst q.beats = .review o →
      exec (.upstreamReadAccepted q) s = .next (match s.holds.mapping with
        | none => { s with transit := { s.transit with
            reads := s.transit.reads ++ [⟨s.transit.nextKey, q, .answered, List.replicate q.beats ⟨0, .error⟩⟩]
            nextKey := s.transit.nextKey + 1 } }
        | some m =>
          if (s.pool.record m.slot).frameSize ≤ o then { s with transit := { s.transit with
            reads := s.transit.reads ++ [⟨s.transit.nextKey, q, .answered, List.replicate q.beats ⟨0, .okay⟩⟩]
            nextKey := s.transit.nextKey + 1 } }
          else { s with
            pool := s.pool.pin m.slot
            transit := { s.transit with
              reads := s.transit.reads ++ [⟨s.transit.nextKey, q,
                .review m.slot o (s.pool.record m.slot).frameSize m.serial m.autoRelease, []⟩]
              nextKey := s.transit.nextKey + 1
              downWaiting := s.transit.downWaiting ++ [⟨.reviewRead s.transit.nextKey, .read, q.id,
                s.pool.base + m.slot * s.pool.size + o, q.burst, q.beats, [], q.beats⟩] } }))
    ∧ (∀ (s : State) (id : TxnId) (beat : ReadBeat) (o size : Nat) (pre post : List DownReq) (r : DownReq)
      (rpre rpost : List ReadTxn) (x : ReadTxn), s.transit.downIssued = pre ++ r :: post → r.id = id →
    s.transit.reads = rpre ++ x :: rpost → (∀ y ∈ rpre ++ rpost, y.key ≠ x.key) →
    ∀ t : State, t = { s with transit := { s.transit with
        downIssued := pre ++ (if r.left ≤ 1 then post else { r with left := r.left - 1 } :: post)
        reads := rpre ++ { x with beats := x.beats
          ++ [if o + 16 * x.beats.length < size then beat else ⟨0, .okay⟩] } :: rpost } } →
    (r.owner = .captureRead x.key → (∀ y ∈ pre, y.isCapture id = false) → (∃ c, x.service = .capture c o size) →
      exec (.captureReadBeat (.sinceReset id) beat) s = .next t)
    ∧ (r.owner = .reviewRead x.key → (∀ y ∈ pre, y.isReview id = false) → (∃ m n a, x.service = .review m o size n a) →
      exec (.reviewReadBeat (.sinceReset id) beat) s = .next t))

/-- R28, R29, R30: a write taken in FILLING that is no start write is sent to the slot base plus its offset, its strobes
cleared at and beyond the frame size, and counted as awaiting; the running offset becomes the end of its frame bytes; the
end mark is set when it covers the last of them, and the partial mark when one has its strobe clear. In order, its pixels
enter the statistics and the signature. Out of order, the frame becomes disordered: once, FRAME_DISORDERED is sent and the
statistics are dropped; the signature is no longer kept.
R28, R30, R38, byte by byte, for an offset and a frame size that are multiples of 16, as R9 and R17 make them: which strobes
are cleared; when a frame byte has its strobe clear; and the signature, into which each byte of the write at a frame offset
from 64 up to the frame size goes in turn. -/
def Obligations.CaptureWritesAreSteered : Prop :=
  (∀ (s : State) (q : WriteReq) (i : Fin 16) (o : Nat) (f : Filling), q.wf = true → s.admits .write →
    s.transit.mode = .active →
    decodeAccess s.transit.windows s.pool.size q.addr.toNat q.burst q.beats.length = .capture i o →
    (s.stream i).cfg.enabled = true → (s.stream i).cap.fill = some f → (s.stream i).cap.heldWrites = [] →
    (f.endMark = false ∨ (s.stream i).cap.awaiting = 0) → 0 < o → o < f.frameSize →
    (∀ x ∈ s.transit.writes, x.key ≠ s.transit.nextKey) →
    ∃ t, exec (.upstreamWriteAccepted q) s = .next t
      ∧ t.transit = { s.transit with
          writes := s.transit.writes ++ [⟨s.transit.nextKey, q, .steered i, false, none⟩]
          nextKey := s.transit.nextKey + 1
          downWaiting := s.transit.downWaiting ++ [⟨.steeredWrite s.transit.nextKey i, .write, q.id,
            s.pool.base + f.slot * s.pool.size + o, .incrementing, q.beats.length,
            steeredBeats o f.frameSize q.beats, 1⟩] }
      ∧ t.stream i = { s.stream i with
          cap := { (s.stream i).cap with
            awaiting := (s.stream i).cap.awaiting + 1
            fill := some { f with
              offset := min (o + 16 * q.beats.length) f.frameSize
              disordered := f.disordered || decide (o ≠ f.offset)
              partFrame := f.partFrame || hasClearStrobe o f.frameSize q.beats
              endMark := f.endMark || decide (f.frameSize ≤ o + 16 * q.beats.length)
              signature := if f.disordered = false ∧ o = f.offset then crcWrite f.signature o f.frameSize q.beats
                else f.signature } }
          acc := if f.disordered = true then (s.stream i).acc
            else if o = f.offset then (s.stream i).acc.takeWrite o f.frameSize q.beats
            else { (s.stream i).acc.clearSums with state := .dropped } }
      ∧ (∀ j, j ≠ i → t.stream j = s.stream j)
      ∧ t.notices = (if f.disordered = false ∧ o ≠ f.offset
          then s.notices.take s.time .frameDisordered i.val f.sequence.toNat else s.notices)
      ∧ t.pool = s.pool ∧ t.evals = s.evals ∧ t.comp = s.comp ∧ t.lines = s.lines ∧ t.holds = s.holds ∧ t.port = s.port
      ∧ t.time = s.time ∧ t.inReset = s.inReset ∧ t.pending = s.pending)
    ∧ ∀ (o size : Nat) (beats : List WriteBeat), o % 16 = 0 → size % 16 = 0 →
      (steeredBeats o size beats).length = beats.length
      ∧ (∀ (k : Nat) x y, beats[k]? = some x → (steeredBeats o size beats)[k]? = some y → y.data = x.data
        ∧ ∀ n, n < 16 → y.strobes.getLsbD n = (x.strobes.getLsbD n && decide (o + 16 * k + n < size)))
      ∧ (hasClearStrobe o size beats = true ↔
        ∃ n, n < 16 * beats.length ∧ o + n < size ∧ writtenStrobe beats n = false)
      ∧ ∀ v, crcWrite v o size beats
        = ((List.range (16 * beats.length)).filter (fun n => decide (64 ≤ o + n ∧ o + n < size))).foldl
            (fun v n => shiftedOut 8 (v ^^^ (writtenByte beats n).setWidth 32)) v

/-- R24, R25, R48: a start write taken in IDLE begins a frame in the first slot of the free list that the stream owns. That
slot becomes FILLING with its record cleared and leaves the free list and the stream's content list; the write is steered
to its base. With no such slot, the write is absorbed with OKAY, FRAME_LOST is sent with value 1 and the lost count rises,
and no slot changes.
R27: a start write taken in FILLING tears the frame in progress: its slot is handed back to the tail of the free list,
FRAME_LOST is sent with value 2, the lost count rises, and the new frame begins, in that slot if it is the first the stream
owns.
In either case the marks of the new frame are clear but for those the start write sets, its running offset is the end of
that write's frame bytes, and its signature goes from all ones through them (R28, R30, R38); the write keeps its id and
data, with its strobes as O9 has them. The accumulators are cleared for the stream's W and H and TW = W div 8 and TH = H
div 6, COLLECTING with the write's pixels taken, or IDLE for a lost start (R62, R63).
R22: a write waits, held at the tail of the stream's held writes, while another is held, or while steered writes await
and the frame has its end mark set or the write is a start write; nothing else happens to it yet.
R21, R46: the two header fields are the bytes of the first beat low byte first; a slot is the stream's whose number its
record names. -/
def Obligations.StartWriteTakesTheOldestFreeSlot : Prop :=
  (∀ (s : State) (q : WriteReq) (i : Fin 16), q.wf = true → s.admits .write → s.transit.mode = .active →
    decodeAccess s.transit.windows s.pool.size q.addr.toNat q.burst q.beats.length = .capture i 0 →
    (s.stream i).cfg.enabled = true → (s.stream i).cap.fill = none → (s.stream i).cap.heldWrites = [] →
    (∀ x ∈ s.transit.writes, x.key ≠ s.transit.nextKey) → s.FreeListExact →
    (∀ (n : Nat) (pre post : List Nat), s.pool.free = pre ++ n :: post →
        (∀ m ∈ pre, s.pool.owns i m = false) → s.pool.owns i n = true →
        ∃ p, s.pool.Gives p i n pre post ∧ exec (.upstreamWriteAccepted q) s = .next { s with
          pool := p
          transit := { s.transit with
            writes := s.transit.writes ++ [⟨s.transit.nextKey, q, .steered i, false, none⟩]
            nextKey := s.transit.nextKey + 1
            downWaiting := s.transit.downWaiting ++ [⟨.steeredWrite s.transit.nextKey i, .write, q.id,
              s.pool.base + n * s.pool.size, .incrementing, q.beats.length,
              steeredBeats 0 (64 + 4 * (s.stream i).cfg.w * (s.stream i).cfg.h) q.beats, 1⟩] }
          streams := modAt s.streams i (fun st => { st with
            cap := { st.cap with fill := some (st.cfg.begun n q.beats), awaiting := st.cap.awaiting + 1 }
            acc := (st.cfg.cleared st.acc .collecting).takeWrite 0 (64 + 4 * st.cfg.w * st.cfg.h) q.beats }) })
    ∧ ((∀ m ∈ s.pool.free, s.pool.owns i m = false) → exec (.upstreamWriteAccepted q) s = .next { s with
          transit := { s.transit with
            writes := s.transit.writes ++ [⟨s.transit.nextKey, q, .absorbed, false, some .okay⟩]
            nextKey := s.transit.nextKey + 1 }
          notices := s.notices.take s.time .frameLost i.val 1
          streams := modAt s.streams i (fun st => { st with
            cap := { st.cap with lost := min 65535 (st.cap.lost + 1) }
            acc := st.cfg.cleared st.acc .idle }) }))
    ∧ (∀ (s : State) (q : WriteReq) (i : Fin 16) (f : Filling) (x : Slot) (n : Nat) (pre post : List Nat), q.wf = true →
      s.admits .write → s.transit.mode = .active →
      decodeAccess s.transit.windows s.pool.size q.addr.toNat q.burst q.beats.length = .capture i 0 →
      (s.stream i).cfg.enabled = true → (s.stream i).cap.fill = some f → (s.stream i).cap.awaiting = 0 →
      (s.stream i).cap.heldWrites = [] → (∀ y ∈ s.transit.writes, y.key ≠ s.transit.nextKey) → s.FreeListExact →
      s.pool.slots[f.slot]? = some x → x.life = .filling → x.pins = 0 → x.hold = none →
      s.pool.free ++ [f.slot] = pre ++ n :: post → (∀ m ∈ pre, s.pool.owns i m = false) → s.pool.owns i n = true →
      ∃ p, (s.pool.handBack f.slot).Gives p i n pre post
        ∧ (n ≠ f.slot → p.slots[f.slot]? = some { x with
            life := .free, valid := false, sigValid := false, partFrame := false
            sequence := 0, frameSize := 0, stamp := 0, signature := 0 })
        ∧ exec (.upstreamWriteAccepted q) s = .next { s with
          pool := p
          notices := s.notices.take s.time .frameLost i.val 2
          transit := { s.transit with
            writes := s.transit.writes ++ [⟨s.transit.nextKey, q, .steered i, false, none⟩]
            nextKey := s.transit.nextKey + 1
            downWaiting := s.transit.downWaiting ++ [⟨.steeredWrite s.transit.nextKey i, .write, q.id,
              s.pool.base + n * s.pool.size, .incrementing, q.beats.length,
              steeredBeats 0 (64 + 4 * (s.stream i).cfg.w * (s.stream i).cfg.h) q.beats, 1⟩] }
          streams := modAt s.streams i (fun st => { st with
            cap := { st.cap with
              fill := some (st.cfg.begun n q.beats)
              awaiting := 1
              lost := min 65535 (st.cap.lost + 1) }
            acc := (st.cfg.cleared st.acc .collecting).takeWrite 0 (64 + 4 * st.cfg.w * st.cfg.h) q.beats }) })
    ∧ (∀ (s : State) (q : WriteReq) (i : Fin 16) (o : Nat), q.wf = true → s.admits .write → s.transit.mode = .active →
      decodeAccess s.transit.windows s.pool.size q.addr.toNat q.burst q.beats.length = .capture i o →
      (s.stream i).cfg.enabled = true → (∀ y ∈ s.transit.writes, y.key ≠ s.transit.nextKey) →
      ((s.stream i).cap.heldWrites ≠ []
        ∨ ∃ f, (s.stream i).cap.fill = some f ∧ 0 < (s.stream i).cap.awaiting ∧ (f.endMark = true ∨ o = 0)) →
      exec (.upstreamWriteAccepted q) s = .next { s with
        transit := { s.transit with
          writes := s.transit.writes ++ [⟨s.transit.nextKey, q, .held i, false, none⟩]
          nextKey := s.transit.nextKey + 1 }
        streams := modAt s.streams i (fun st => { st with
          cap := { st.cap with heldWrites := st.cap.heldWrites ++ [⟨s.transit.nextKey, q.id, o, q.beats⟩] } }) })
    ∧ (∀ (x : WriteBeat) (rest : List WriteBeat) (n : Nat), n < 15 →
      (headerField (x :: rest) n).toNat
        = (writtenByte (x :: rest) n).toNat + 256 * (writtenByte (x :: rest) (n + 1)).toNat)
    ∧ ∀ (p : SlotPool) (i : Fin 16) (n : Nat),
      p.owns i n = true ↔ ∃ x, p.slots[n]? = some x ∧ x.owner = some i

/-- R31: a write to a disabled stream's window, a write that is no start write in IDLE, and a tail write are absorbed:
answered OKAY, not forwarded, counted as an orphan, and nothing else changes. -/
def Obligations.UnfitWritesAreAbsorbed : Prop :=
  ∀ (s : State) (q : WriteReq) (i : Fin 16) (o : Nat), q.wf = true → s.admits .write → s.transit.mode = .active →
    decodeAccess s.transit.windows s.pool.size q.addr.toNat q.burst q.beats.length = .capture i o →
    (∀ x ∈ s.transit.writes, x.key ≠ s.transit.nextKey) →
    ((s.stream i).cfg.enabled = false
      ∨ (s.stream i).cap.heldWrites = [] ∧ 0 < o ∧ (s.stream i).cap.fill = none
      ∨ (s.stream i).cap.heldWrites = [] ∧ ∃ f, (s.stream i).cap.fill = some f ∧ 0 < o ∧ f.frameSize ≤ o
          ∧ (f.endMark = false ∨ (s.stream i).cap.awaiting = 0)) →
    exec (.upstreamWriteAccepted q) s = .next { s with
      transit := { s.transit with
        writes := s.transit.writes ++ [⟨s.transit.nextKey, q, .absorbed, false, some .okay⟩]
        nextKey := s.transit.nextKey + 1 }
      streams := modAt s.streams i (fun st => { st with
        cap := { st.cap with orphans := min 65535 (st.cap.orphans + 1) } }) }

/-- R32: the response of a steered write goes to its write and lowers the stream's awaiting count; ERROR sets the damaged
mark of the frame in progress, but not of a frame abandoned by a disable. So it is of a response that leaves others
awaiting, and of the last one of a frame without its end mark, which stays in FILLING. (That a response belongs to the
oldest issued steered write of its id is the model's reading, log entry 4.)
R20: the last response of an abandoned frame hands its slot back.
R23: the last response lets a held start write be taken: the frame before it completes or is torn, and the new frame begins
in the first slot of the free list that the stream owns; a start write held behind it goes on waiting. Of any held writes:
the frame is settled as with none held, and then they are taken from the head, one after another, each under the rule that
fits it in the state the one before it left (R24, R25, R27 to R31, R62, R63) — absorbed as an orphan in IDLE, of a disabled
stream or as a tail write, beginning a frame or lost in IDLE at offset 0, tearing one in FILLING, steered in order or out of
order else — until none is left or the next must wait, behind the end mark or to tear while writes await. -/
def Obligations.SteeredResponseLowersTheCount : Prop :=
  ∀ (s : State) (id : TxnId) (resp : Resp) (key : Nat) (i : Fin 16) (pre post : List DownReq) (r : DownReq) (n : Nat),
    s.transit.downIssued = pre ++ r :: post → (∀ y ∈ pre, y.isSteered id = false) → r.owner = .steeredWrite key i →
    r.id = id → r.left = 1 → (s.stream i).cap.awaiting = n + 1 →
    ((n = 0 → (s.stream i).cap.abandoned = none ∧ (s.stream i).cap.heldWrites = []
        ∧ ∀ f, (s.stream i).cap.fill = some f → f.endMark = false) →
      exec (.steeredWriteResponse (.sinceReset id) resp) s = .next { s with
        transit := { s.transit with
          downIssued := pre ++ post
          writes := s.transit.writes.map (fun x => if x.key = key then { x with response := some resp } else x) }
        streams := modAt s.streams i (fun st => { st with cap := { st.cap with
          awaiting := n
          fill := if resp = .error ∧ st.cap.abandoned = none
            then st.cap.fill.map (fun f => { f with damaged := true }) else st.cap.fill } }) })
    ∧ (n = 0 → ∀ m, (s.stream i).cap.abandoned = some m →
      exec (.steeredWriteResponse (.sinceReset id) resp) s = .next { s with
        transit := { s.transit with
          downIssued := pre ++ post
          writes := s.transit.writes.map (fun x => if x.key = key then { x with response := some resp } else x) }
        pool := s.pool.handBack m
        streams := modAt s.streams i (fun st => { st with cap := { st.cap with awaiting := 0, abandoned := none } }) })
    ∧ (n = 0 → ∀ (f : Filling) (x : Slot) (w : CaptureWrite) (ws : List CaptureWrite) (m : Nat) (front back : List Nat),
      (s.stream i).cap.abandoned = none → (s.stream i).cap.fill = some f → (s.stream i).cap.heldWrites = w :: ws →
      w.offset = 0 → (ws = [] ∨ ∃ v vs, ws = v :: vs ∧ v.offset = 0) → (s.stream i).cfg.enabled = true →
      s.FreeListExact → s.pool.slots[f.slot]? = some x → x.life = .filling → s.pool.free = front ++ m :: back →
      (∀ k ∈ front, s.pool.owns i k = false) → s.pool.owns i m = true →
      ∃ t, exec (.steeredWriteResponse (.sinceReset id) resp) s = .next t
        ∧ (t.stream i).cap.fill = some ((s.stream i).cfg.begun m w.beats) ∧ (t.stream i).cap.awaiting = 1
        ∧ (t.stream i).cap.heldWrites = ws ∧ (t.pool.slots[m]?).map Slot.life = some .filling
        ∧ (∃ a, (t.stream i).acc = ((s.stream i).cfg.cleared a .collecting).takeWrite 0
            (64 + 4 * (s.stream i).cfg.w * (s.stream i).cfg.h) w.beats)
        ∧ t.transit.downWaiting = s.transit.downWaiting
          ++ [s.steeredTo i m (64 + 4 * (s.stream i).cfg.w * (s.stream i).cfg.h) w])
    ∧ (n = 0 → (s.stream i).cap.abandoned = none → ∀ u,
      exec (.steeredWriteResponse (.sinceReset id) resp) { s with
        streams := modAt s.streams i (fun st => { st with cap := { st.cap with heldWrites := [] } }) } = .next u →
      ∃ t, exec (.steeredWriteResponse (.sinceReset id) resp) s = .next t
        ∧ u.TakesInTurn t i (s.stream i).cap.heldWrites)

/-- R33, R36, R50: the frame with its end mark set, undamaged and with the stream's identity, is accepted at its last
response. Its slot becomes CURRENT with valid content, the header sequence, part time as stamp, and the inverted
signature unless disordered; it heads the content list; the previous CURRENT slot becomes RETIRED if pinned and FREE if
not; progress is IDLE.
R35, R39: a step of the sequence by d + 1 with d in 1–32767 sends SEQUENCE_GAP and adds d to the missed count; any other
step but 1 sends SEQUENCE_REGRESS. The last sequence is the frame's. Freshness is LIVE, its timer restarts, and a stream
that was not LIVE sends STREAM_LIVE.
R70 to R72: a measured frame gives the evaluation queue its record, which the idle engine begins at once when it is the
head; at 4 queued records it is skipped with EVAL_SKIPPED instead.
R154: the oldest group of the stream that waits for post frames takes the slot, or, at 8 held slots or with 2 unheld ones,
every group of the stream stops waiting with HOLD_CLAMPED. (That the last response belongs to the oldest issued steered
write of its id is the model's reading, log entry 4.) -/
def Obligations.CompletedFrameIsAccepted : Prop :=
  ∀ (s : State) (id : TxnId) (key : Nat) (i : Fin 16) (rest : List DownReq) (f : Filling) (x : Slot)
      (groups cut : List Group) (held : Option Nat),
    s.lastSteered i id key rest → (s.stream i).cap.fill = some f → f.endMark = true → f.damaged = false →
    f.identity = (s.stream i).cfg.identity → s.pool.slots[f.slot]? = some x → x.life = .filling →
    s.PostFrame i f.slot groups held cut →
    ∃ t r, exec (.steeredWriteResponse (.sinceReset id) .okay) s = .next t
      ∧ t.pool.slots[f.slot]? = some { x with
          life := .current, valid := true, sequence := f.sequence, frameSize := f.frameSize, stamp := s.time
          signature := if f.disordered = true then 0 else ~~~ f.signature
          sigValid := !f.disordered, partFrame := f.partFrame, hold := held.or x.hold }
      ∧ t.pool.content[i] = f.slot :: s.pool.content[i].erase f.slot
      ∧ (∀ c y, s.pool.currentOf i = some c → s.pool.slots[c]? = some y →
          t.pool.slots[c]? = some { y with life := if y.pins = 0 then .free else .retired })
      ∧ (∀ m, m ≠ f.slot → s.pool.currentOf i ≠ some m → t.pool.slots[m]? = s.pool.slots[m]?)
      ∧ (t.stream i).cap.fill = none ∧ (t.stream i).cap.awaiting = 0
      ∧ (t.stream i).cap.lastSeq = some f.sequence ∧ (t.stream i).cap.freshness = .live
      ∧ (t.stream i).cap.timer = some (s.time + BitVec.ofNat 32 (s.stream i).cfg.ageLimit)
      ∧ (t.stream i).cap.lost = (s.stream i).cap.lost
      ∧ (t.stream i).cap.missed = (match (s.stream i).cap.lastSeq with
        | none => (s.stream i).cap.missed
        | some last => if f.sequence ≠ last + 1 ∧ (f.sequence - last - 1).toNat < 32768
            then min 65535 ((s.stream i).cap.missed + (f.sequence - last - 1).toNat) else (s.stream i).cap.missed)
      ∧ t.notices = cut.foldl (fun q g => q.take s.time .holdClamped g.id g.post)
          (if (s.stream i).acc.state = .collecting ∧ 4 ≤ s.evals.queue.length
            then (s.acceptNotices i f.sequence).take s.time .evalSkipped i.val f.sequence.toNat
            else s.acceptNotices i f.sequence)
      ∧ (s.stream i).Record i f.sequence r
      ∧ (t.stream i).acc = (if (s.stream i).acc.state = .collecting then { (s.stream i).acc with
            state := .idle
            lastOffered := some f.sequence
            lastComplete := r.pix
            lastIncomplete := (s.stream i).acc.incomplete
            skipped := if 4 ≤ s.evals.queue.length then min 65535 ((s.stream i).acc.skipped + 1)
              else (s.stream i).acc.skipped }
          else { (s.stream i).acc with state := .idle })
      ∧ t.evals = (if (s.stream i).acc.state ≠ .collecting ∨ 4 ≤ s.evals.queue.length then s.evals
          else match s.evals.current, s.evals.queue with
            | some _, l => { s.evals with queue := l ++ [r] }
            | none, [] => { s.evals with current := some ⟨r, false⟩ }
            | none, a :: l => { s.evals with current := some ⟨a, false⟩, queue := l ++ [r] })
      ∧ t.holds = { s.holds with groups := groups }
      ∧ (∀ j, j ≠ i → t.stream j = s.stream j) ∧ t.comp = s.comp ∧ t.lines = s.lines
      ∧ t.port = s.port ∧ t.time = s.time

/-- R33, R34, R26: a frame with its end mark set is lost at its last response: DAMAGED when a steered write was answered
ERROR, else IDENTITY when its header identity differs from the stream's. The slot is handed back FREE with its content
invalid, the statistics are dropped, FRAME_LOST is sent with the cause, the lost count rises, and progress is IDLE. (That
the last response belongs to the oldest issued steered write of its id is the model's reading, log entry 4.) -/
def Obligations.DamagedOrForeignFrameIsLost : Prop :=
  ∀ (s : State) (id : TxnId) (resp : Resp) (key : Nat) (i : Fin 16) (rest : List DownReq) (f : Filling) (cause : Nat),
    s.lastSteered i id key rest → (s.stream i).cap.fill = some f → f.endMark = true →
    ((f.damaged = true ∨ resp = .error) ∧ cause = 3
      ∨ f.damaged = false ∧ resp = .okay ∧ f.identity ≠ (s.stream i).cfg.identity ∧ cause = 4) →
    exec (.steeredWriteResponse (.sinceReset id) resp) s = .next { s with
      transit := { s.transit with
        downIssued := rest
        writes := s.transit.writes.map (fun x => if x.key = key then { x with response := some resp } else x) }
      pool := s.pool.handBack f.slot
      notices := s.notices.take s.time .frameLost i.val cause
      streams := modAt s.streams i (fun st => { st with
        acc := { st.acc.clearSums with state := .idle }
        cap := { st.cap with
          fill := none
          awaiting := 0
          lost := min 65535 (st.cap.lost + 1) } }) }

/-- R47, R51, R53, R55: what the operations of the Slot Pool that other rules name do to a slot's record and to the free
list. A pin raises the pin count, and the slot leaves the free list. The last unpin makes a RETIRED slot FREE, and a slot
that is then FREE and unheld joins the tail; any other unpin moves no list. Handing a FILLING slot back makes it FREE with
its content invalid, and it joins the tail when unpinned and unheld. A hold names its group, and the slot leaves the list;
unholding a FREE, unpinned slot puts it at the tail. No other record, no content list and no setting changes, and the free
list stays exact; a number that names no slot changes nothing. -/
def Obligations.SlotOperationsMoveTheFreeList : Prop :=
  ∀ (p : SlotPool) (n group : Nat), p.FreeListExact →
    (∀ p' ∈ [p.pin n, p.unpin n, p.handBack n, p.holdFor group n, p.unhold n],
      p'.FreeListExact ∧ p'.isSet = p.isSet ∧ p'.base = p.base ∧ p'.review = p.review ∧ p'.size = p.size
        ∧ p'.count = p.count ∧ p'.content = p.content ∧ (∀ m, m ≠ n → p'.slots[m]? = p.slots[m]?)
        ∧ (p.slots[n]? = none → p' = p))
    ∧ ∀ x, p.slots[n]? = some x →
      ((p.pin n).slots[n]? = some { x with pins := x.pins + 1 } ∧ (p.pin n).free = p.free.erase n)
      ∧ (1 ≤ x.pins →
        (p.unpin n).slots[n]? = some { x with
            pins := x.pins - 1, life := if x.pins = 1 ∧ x.life = .retired then .free else x.life }
        ∧ (p.unpin n).free = if x.pins = 1 ∧ (x.life = .retired ∨ x.life = .free) ∧ x.hold = none then p.free ++ [n]
          else p.free)
      ∧ (x.life = .filling →
        (p.handBack n).slots[n]? = some { x with
            life := .free, valid := false, sigValid := false, partFrame := false
            sequence := 0, frameSize := 0, stamp := 0, signature := 0 }
        ∧ (p.handBack n).free = if x.pins = 0 ∧ x.hold = none then p.free ++ [n] else p.free)
      ∧ ((p.holdFor group n).slots[n]? = some { x with hold := some group } ∧ (p.holdFor group n).free = p.free.erase n)
      ∧ (p.unhold n).slots[n]? = some { x with hold := none }
      ∧ (p.unhold n).free = if x.hold ≠ none ∧ x.life = .free ∧ x.pins = 0 then p.free ++ [n] else p.free

/-! ### Composition Engine and generated views -/

/-- R106 to R110: a read at offset 0 of a screen latches a frame. The view is DOOR where door view is active, else REVERSE
where the reverse view is placed, else the requested layout; its panes take their overlay codes, slots and stream sizes
now, and pin those slots; it becomes the kept view; VIEW_CHANGE is sent when the kind differs from the previous one.
R104: the read waits for one gather for each block that one of its pixels needs, and for no other, at the slot base plus
the block's offset (one block a gather is the model's choice, log entry 6).
R113: a frame that is still there is first ended by restart: its reads in flight become unlatched, each with a pin on the
slots it takes pixels from, before the pins of the frame's panes are dropped, and the restart count rises. (For a screen
of more than 64 pixels, which no read covers whole.)
R108: the overlay code of a pane, by the first test that applies. R50: which slot is a stream's CURRENT slot. -/
def Obligations.LatchFixesTheFrame : Prop :=
  (∀ (s : State) (q : ReadReq) (c : Fin 2) (v : KeptView) (panes : List ViewPane) (carried : List ReadTxn)
      (ended : List Nat) (x : Screen), q.wf = true → s.admits .read → s.transit.mode = .active →
    decodeAccess s.transit.windows s.pool.size q.addr.toNat q.burst q.beats = .screen c 0 →
    64 < (s.screen c).w * (s.screen c).h → v = s.latchView c → panes = s.fixPanes v.panes →
    ((s.screen c).frame = none → carried = [] ∧ ended = [] ∧ x = s.screen c) →
    (∀ f, (s.screen c).frame = some f → carried = s.transit.reads.filter (ReadTxn.inFrame c)
      ∧ ended = f.panes.filterMap ViewPane.slot
      ∧ x = { s.screen c with
          unlatched := (s.screen c).unlatched + carried.length
          restarts := min 65535 ((s.screen c).restarts + 1) }) →
    ∃ t r, exec (.upstreamReadAccepted q) s = .next t
      ∧ t.screen c = x.Latched v panes s.time
      ∧ (∀ d, d ≠ c → t.screen d = s.screen d)
      ∧ t.pool = ((s.pool.pinAll (carried.flatMap (fun y => y.carryOver.pins))).unpinAll ended).pinAll
          (panes.filterMap ViewPane.slot)
      ∧ t.notices = (if v.kind = (s.screen c).prevKind then s.notices
          else s.notices.take s.time .viewChange c.val v.kind.code)
      ∧ s.Serves t (s.transit.reads.map (fun y => if y ∈ carried then y.carryOver else y)) q r
      ∧ r.screen = c ∧ r.offset = 0 ∧ r.width = (s.screen c).w ∧ r.bg = v.bg ∧ r.panes = panes ∧ r.latched = true
      ∧ r.pins = [] ∧ t.streams = s.streams ∧ t.evals = s.evals ∧ t.lines = s.lines ∧ t.holds = s.holds ∧ t.port = s.port)
    ∧ (∀ (c : Fin 2) (y : ReadTxn),
      (y.inFrame c = true ↔ ∃ r, y.service = .screen r ∧ r.screen = c ∧ r.latched = true)
      ∧ ∀ r, y.service = .screen r → ∃ l, r.uses y.req.beats l ∧ y.carryOver.pins = l
        ∧ y.carryOver = { y with service := .screen { r with latched := false, pins := l } })
    ∧ (∀ (s : State) (p : Pane) (st : Stream) (blank : Prop), st = s.stream p.stream →
      blank = (st.cfg.enabled = false ∨ st.cap.freshness = .noSignal ∨ s.pool.currentOf p.stream = none
        ∨ ¬(p.sx + p.sw ≤ st.cfg.w ∧ p.sy + p.sh ≤ st.cfg.h)) →
      (blank → s.overlayOf p = .noSignal)
      ∧ (¬blank → st.cap.freshness = .stale → s.overlayOf p = .stale)
      ∧ (¬blank → st.cap.freshness = .live →
        (p.badge = true → st.lens.state = .soiled → s.overlayOf p = .badgeSoiled)
        ∧ (p.badge = true → st.lens.state = .suspect → s.evals.soiling.badge = true → s.overlayOf p = .badgeSuspect)
        ∧ (p.badge = false ∨ st.lens.state = .clean ∨ st.lens.state = .learning
            ∨ st.lens.state = .suspect ∧ s.evals.soiling.badge = false → s.overlayOf p = .none)))
    ∧ ∀ (pool : SlotPool) (i : Fin 16),
      (∀ n, pool.currentOf i = some n → ∃ x, pool.slots[n]? = some x ∧ x.life = .current ∧ x.owner = some i)
      ∧ (pool.currentOf i = none → ∀ (n : Nat) x, pool.slots[n]? = some x → ¬(x.life = .current ∧ x.owner = some i))

/-- R105, R112: a read at an offset above 0 of a screen with an OPEN frame belongs to it: it is served from the frame's view,
and the reads in flight and the reads accepted rise; one that covers the last byte sets end seen and stops the timer.
R115: with no frame, or an EXPIRED one, it is unlatched: served from the kept view, with overlay codes, slots and stream
sizes fixed now for this read alone, or black with none; it pins each slot it takes pixels from, in the order of the first
pane of the view that uses each, and the unlatched counts rise; the frame is not touched.
R104: either waits for one gather for each block that one of its pixels needs (one block a gather is the model's choice, log
entry 6). -/
def Obligations.ScreenReadsJoinTheirFrameOrAreUnlatched : Prop :=
  ∀ (s : State) (q : ReadReq) (c : Fin 2) (o : Nat), q.wf = true → s.admits .read → s.transit.mode = .active →
    decodeAccess s.transit.windows s.pool.size q.addr.toNat q.burst q.beats = .screen c o → 0 < o →
    ∃ t r, exec (.upstreamReadAccepted q) s = .next t ∧ s.Serves t s.transit.reads q r
      ∧ r.screen = c ∧ r.offset = o ∧ r.width = (s.screen c).w
      ∧ (∀ f, (s.screen c).frame = some f → f.expired = false →
        r.bg = f.bg ∧ r.panes = f.panes ∧ r.latched = true ∧ r.pins = [] ∧ t.pool = s.pool
        ∧ ∀ ends : Bool, ends = decide (o < 4 * (s.screen c).w * (s.screen c).h
            ∧ 4 * (s.screen c).w * (s.screen c).h ≤ o + 16 * q.beats) →
          t.screen c = { s.screen c with frame := some { f with
            inFlight := f.inFlight + 1
            accepted := min 65535 (f.accepted + 1)
            endSeen := f.endSeen || ends
            timer := if ends = true then none else f.timer } })
      ∧ ((∀ f, (s.screen c).frame = some f → f.expired = true) →
        r.bg = (match (s.screen c).kept with
          | none => ⟨0, 0, 0⟩
          | some v => v.bg)
        ∧ r.panes = (match (s.screen c).kept with
          | none => []
          | some v => s.fixPanes v.panes)
        ∧ r.latched = false ∧ r.uses q.beats r.pins ∧ t.pool = s.pool.pinAll r.pins
        ∧ t.screen c = { s.screen c with
            unlatched := (s.screen c).unlatched + 1
            unlatchedReads := min 4294967295 ((s.screen c).unlatchedReads + 1) })
      ∧ (∀ d, d ≠ c → t.screen d = s.screen d) ∧ t.notices = s.notices ∧ t.streams = s.streams ∧ t.evals = s.evals
      ∧ t.lines = s.lines ∧ t.holds = s.holds ∧ t.port = s.port

/-- The law of R135: while door view is enabled, every screen frame latched while a door of that screen's side is open
shows a pane of that door's stream, whenever the door has an enabled DOOR stream (the one stream of R17).
R131, R133, R139, R140: the side a screen shows; when door view is active on it, by an open door or by the linger timer of
the side; when the reverse view is active, on which screen it is placed, and when it is hidden.
R135: the door view has a pane for each shown door in the order of the active cab: the open doors of the side, or with none
open the kept ones (a list in door-number order), that have an enabled DOOR stream; with none of them, no pane and the
background of layout 0. R139: the reverse view has one pane of the trailing-end stream, or none. -/
def Obligations.OpenDoorIsAlwaysShown : Prop :=
  (∀ (s : State) (q : ReadReq) (c : Fin 2) (d : Fin 12) (i : Fin 16), q.wf = true → s.admits .read →
    s.transit.mode = .active →
    decodeAccess s.transit.windows s.pool.size q.addr.toNat q.burst q.beats = .screen c 0 →
    s.lines.doorEnable = true → s.lines.doorOpen d = true → sideOf d = s.lines.shownSide c →
    (s.stream i).cfg.role = .door → (s.stream i).cfg.door = d.val → (s.stream i).cfg.enabled = true →
    (∀ j, (s.stream j).cfg.role = .door → (s.stream j).cfg.door = d.val → j = i) →
    ∃ t f, exec (.upstreamReadAccepted q) s = .next t ∧ (t.screen c).frame = some f ∧ f.kind = .door
      ∧ ∃ v ∈ f.panes, v.pane.stream = i)
    ∧ (∀ (m : LineMonitor) (c c' : Fin 2), c' ≠ c →
      (∀ d : Fin 12, (sideOf d = 0 ↔ d.val ≤ 5) ∧ m.doorOpen d = m.lines[(⟨d.val, by omega⟩ : Fin 15)].debounced)
      ∧ m.shownSide c = (if m.lines[(12 : Fin 15)].debounced = true then c' else c)
      ∧ (m.doorViewActive c = true ↔ m.doorEnable = true
        ∧ ((∃ d : Fin 12, sideOf d = m.shownSide c ∧ m.doorOpen d = true) ∨ m.sides[m.shownSide c].timer ≠ none))
      ∧ (m.reverseActive = true ↔ m.reverseEnable = true ∧ m.lines[(13 : Fin 15)].debounced = true)
      ∧ (m.reversePlacement = some c ↔ m.reverseActive = true ∧ m.doorViewActive c = false
        ∧ (m.preferred = c ∨ m.doorViewActive c' = true))
      ∧ (m.reverseIsHidden = true ↔ m.reverseActive = true ∧ m.doorViewActive c = true ∧ m.doorViewActive c' = true))
    ∧ ∀ (s : State) (c x : Fin 2), x = s.lines.shownSide c →
      (∀ doors : List Nat, doors.Pairwise (fun a b => a < b) → s.lines.sides[x].kept.Pairwise (fun a b => a < b) →
        (∀ n, n ∈ doors ↔ (∃ d : Fin 12, d.val = n ∧ sideOf d = x ∧ s.lines.doorOpen d = true)
          ∨ (∀ d : Fin 12, sideOf d = x → s.lines.doorOpen d = false) ∧ n ∈ s.lines.sides[x].kept) →
        ∃ f, s.DoorStreams f ∧ ∀ shown : List (Fin 16),
          shown = (if s.lines.lines[(12 : Fin 15)].debounced = true then doors.reverse else doors).filterMap f →
          s.doorView c = {
            kind := .door
            bg := if shown = [] then s.comp.layouts[(0 : Fin 16)].bg else ⟨0, 0, 0⟩
            panes := shown.zipIdx.map (fun y => cellPane (s.screen c).w (s.screen c).h (gridOf shown.length).1
              (gridOf shown.length).2 y.2 y.1 (s.stream y.1).cfg) })
      ∧ ∀ role : Role, role = (if s.lines.lines[(12 : Fin 15)].debounced = true then .endA else .endB) →
        ((∀ i, (s.stream i).cfg.role ≠ role) → s.reverseView c = ⟨.reverse, ⟨0, 0, 0⟩, []⟩)
        ∧ ∀ i, (∀ j, (s.stream j).cfg.role = role ↔ j = i) → s.reverseView c
          = ⟨.reverse, ⟨0, 0, 0⟩, [cellPane (s.screen c).w (s.screen c).h 1 1 0 i (s.stream i).cfg]⟩

/-- R102, R103, R120 to R125: a pixel no pane covers takes the background. Otherwise the last covering pane decides: the
source pixel at 64 + 4 × (W × row + column) of its slot, in the block that holds it; the 8 × 8 checker for NO_SIGNAL; for
STALE a stripe where (x + y) mod 16 is below 3 and the dimmed source elsewhere; the badge square with its two-pixel black
border for the badge codes, and the source outside it. -/
def Obligations.OverlayDecidesThePixel : Prop :=
  ∀ (bg : Colour) (ps : List ViewPane) (x y : Nat),
    ((∀ v ∈ ps, ¬(v.pane.dx ≤ x ∧ x < v.pane.dx + v.pane.sw / v.pane.k ∧ v.pane.dy ≤ y
        ∧ y < v.pane.dy + v.pane.sh / v.pane.k)) → pixelOf bg ps x y = .flat bg)
    ∧ ∀ (pre post : List ViewPane) (v : ViewPane), ps = pre ++ v :: post →
      (v.pane.dx ≤ x ∧ x < v.pane.dx + v.pane.sw / v.pane.k ∧ v.pane.dy ≤ y ∧ y < v.pane.dy + v.pane.sh / v.pane.k) →
      (∀ z ∈ post, ¬(z.pane.dx ≤ x ∧ x < z.pane.dx + z.pane.sw / z.pane.k ∧ z.pane.dy ≤ y
        ∧ y < z.pane.dy + z.pane.sh / z.pane.k)) →
      ∀ badge : Bool, badge = decide (v.pane.dx + 4 ≤ x ∧ x ≤ v.pane.dx + 27 ∧ v.pane.dy + 4 ≤ y
        ∧ y ≤ v.pane.dy + 27) →
      (∀ n place, v.slot = some n →
        place = 64 + 4 * (v.w * (v.pane.sy + v.pane.k * (y - v.pane.dy)) + (v.pane.sx + v.pane.k *
          (if v.pane.mirror = true then v.pane.sw / v.pane.k - 1 - (x - v.pane.dx) else x - v.pane.dx))) →
        ((v.overlay = .none ∨ (v.overlay = .badgeSoiled ∨ v.overlay = .badgeSuspect) ∧ badge = false) →
          pixelOf bg ps x y = .source pre.length n (place - place % 16) (place % 16) false)
        ∧ (v.overlay = .stale → 3 ≤ (x + y) % 16 →
          pixelOf bg ps x y = .source pre.length n (place - place % 16) (place % 16) true))
      ∧ ((v.overlay = .badgeSoiled ∨ v.overlay = .badgeSuspect) → badge = true →
          pixelOf bg ps x y = .flat
            (if x < v.pane.dx + 6 ∨ v.pane.dx + 26 ≤ x ∨ y < v.pane.dy + 6 ∨ v.pane.dy + 26 ≤ y then ⟨0, 0, 0⟩
             else if v.overlay = .badgeSoiled then ⟨255, 160, 0⟩ else ⟨255, 230, 0⟩))
      ∧ (v.overlay = .noSignal →
          pixelOf bg ps x y = .flat (if (x / 8 + y / 8) % 2 = 0 then ⟨0, 0, 0⟩ else ⟨32, 32, 32⟩))
      ∧ (v.overlay = .stale → (x + y) % 16 < 3 → pixelOf bg ps x y = .flat ⟨128, 128, 128⟩)

/-- R101, R111: a complete screen read is returned with all its beats, each OKAY; beat b carries the pixels of index
offset / 4 + 4b to offset / 4 + 4b + 3 in that order, each as R, G, B and a zero byte. A source pixel takes the three bytes
at its place in the gathered block, halved under STALE, or the fault colour when the block's beat was answered ERROR. A
pixel that takes no source (background, checker, stripe, badge: R120 to R125) carries the colour of its pattern. -/
def Obligations.AperturePixelsInOrder : Prop :=
  (∀ (r : ScreenRead) (beats b i : Nat) (c : Colour), b < beats → i < 4 →
      c = r.colour (pixelOf r.bg r.panes ((r.offset / 4 + 4 * b + i) % r.width) ((r.offset / 4 + 4 * b + i) / r.width)) →
      ∃ beat, (r.answer beats)[b]? = some beat ∧ beat.resp = .okay
        ∧ lineByte beat.data (4 * i) = c.r ∧ lineByte beat.data (4 * i + 1) = c.g
        ∧ lineByte beat.data (4 * i + 2) = c.b ∧ lineByte beat.data (4 * i + 3) = 0)
    ∧ (∀ (r : ScreenRead) (j n block within : Nat) (dim : Bool) (g : ReadBeat) (pre post : List GatherBlock),
      r.blocks = pre ++ ⟨n, block, some g⟩ :: post → (∀ y ∈ pre, ¬(y.slot = n ∧ y.offset = block)) →
      r.colour (.source j n block within dim)
        = if g.resp = .error then ⟨255, 0, 255⟩
          else if dim = true then
            ⟨lineByte g.data within >>> 1, lineByte g.data (within + 1) >>> 1, lineByte g.data (within + 2) >>> 1⟩
          else ⟨lineByte g.data within, lineByte g.data (within + 1), lineByte g.data (within + 2)⟩)
    ∧ ∀ (r : ScreenRead) (c : Colour), r.colour (.flat c) = c

/-- R104, R111: a gather beat fills the block of the read it serves; ERROR sends GATHER_FAULT with the screen and the slot
and raises that screen's fault count. No slot record changes. The n-th issued gather read is named by its place among the
gather reads at the downstream port (log entry 4). -/
def Obligations.GatherBeatIsDelivered : Prop :=
  ∀ (s : State) (n : Nat) (beat : ReadBeat) (pre post : List DownReq) (d : DownReq) (rpre rpost : List ReadTxn)
      (x : ReadTxn) (r : ScreenRead) (slot offset : Nat),
    s.transit.downIssued = pre ++ d :: post → (pre.filter DownReq.isGather).length = n →
    d.owner = .gather x.key slot offset → d.left = 1 → s.transit.reads = rpre ++ x :: rpost →
    (∀ y ∈ rpre ++ rpost, y.key ≠ x.key) → x.service = .screen r →
    ∀ t : State, t = { s with transit := { s.transit with
        downIssued := pre ++ post
        reads := rpre ++ { x with service := .screen { r with blocks := r.blocks.map (fun b =>
          if b.slot = slot ∧ b.offset = offset then { b with got := some beat } else b) } } :: rpost } } →
    exec (.gatherReadBeat (.sinceReset n) beat) s = .next (if beat.resp = .error then { t with
      notices := s.notices.take s.time .gatherFault r.screen.val slot
      comp := { s.comp with screens := modAt s.comp.screens r.screen (fun y =>
        { y with faults := min 65535 (y.faults + 1) }) } } else t)

/-- R112, R115: the return of a complete screen read's last beat. Of a latched frame, the reads in flight fall by one; when
none is left and the end was seen or the frame has expired, the frame closes: its panes' pins are dropped in pane order
and the screen has no frame. An unlatched read drops the pins it took, in the order of its list (R113, R115). (For a part
that is not DRAINING and has no request waiting at the port.) -/
def Obligations.ScreenReadsReturn : Prop :=
  ∀ (s : State) (id : TxnId) (pre post : List ReadTxn) (x : ReadTxn) (r : ScreenRead),
    s.transit.reads = pre ++ x :: post → (∀ y ∈ pre, y.req.id ≠ id) → x.req.id = id → x.service = .screen r →
    (∀ b ∈ r.blocks, b.got ≠ none) → s.transit.mode ≠ .draining → s.transit.waiting = [] →
    ∀ t : State, t = { s with transit := { s.transit with
        reads := pre ++ post
        lastAnswer := some (.read id (r.answer x.req.beats)) } } →
    (r.latched = false → exec (.answerReturned .read id) s = .next { t with
        pool := s.pool.unpinAll r.pins
        comp := { s.comp with screens := modAt s.comp.screens r.screen (fun y =>
          { y with unlatched := y.unlatched - 1 }) } })
    ∧ (r.latched = true → ∀ f, (s.screen r.screen).frame = some f →
        (f.inFlight = 1 → f.endSeen = true ∨ f.expired = true →
          exec (.answerReturned .read id) s = .next { t with
            pool := s.pool.unpinAll (f.panes.filterMap ViewPane.slot)
            comp := { s.comp with screens := modAt s.comp.screens r.screen (fun y => { y with frame := none }) } })
        ∧ (2 ≤ f.inFlight ∨ f.endSeen = false ∧ f.expired = false →
          exec (.answerReturned .read id) s = .next { t with
            comp := { s.comp with screens := modAt s.comp.screens r.screen (fun y =>
              { y with frame := some { f with inFlight := f.inFlight - 1 } }) } }))

/-- R136 to R138: the pane of cell j of the grid for n doors, for n from 1 to 6. The decimation is the smallest of 1 to 4
at which the frame fits the cell, or 4; the crop is a multiple of it within the frame; and the pane stands centred in its
cell, wholly inside it and on the screen. -/
def Obligations.FittedPanesStayInTheirCells : Prop :=
  ∀ (ws hs n j : Nat) (i : Fin 16) (cfg : StreamConfig), 1 ≤ n → n ≤ 6 → j < n →
    ∀ (c r : Nat) (p : Pane), (c, r) = gridOf n → p = cellPane ws hs c r j i cfg →
      (c, r) = (if n = 1 then (1, 1) else if n = 2 then (2, 1) else if n ≤ 4 then (2, 2) else (3, 2))
      ∧ p.stream = i ∧ p.mirror = cfg.mirror ∧ p.badge = true
      ∧ 1 ≤ p.k ∧ p.k ≤ 4 ∧ (∀ k, 1 ≤ k → k < p.k → ¬(cfg.w ≤ k * (ws / c) ∧ cfg.h ≤ k * (hs / r)))
      ∧ p.sw % p.k = 0 ∧ p.sh % p.k = 0 ∧ p.sx + p.sw ≤ cfg.w ∧ p.sy + p.sh ≤ cfg.h
      ∧ (cfg.w ≤ p.k * (ws / c) ∧ cfg.h ≤ p.k * (hs / r) →
          p.sx = 0 ∧ p.sy = 0 ∧ p.sw = cfg.w - cfg.w % p.k ∧ p.sh = cfg.h - cfg.h % p.k)
      ∧ (¬(cfg.w ≤ p.k * (ws / c) ∧ cfg.h ≤ p.k * (hs / r)) → p.k = 4
          ∧ p.sw = min (cfg.w - cfg.w % 4) (4 * (ws / c)) ∧ p.sh = min (cfg.h - cfg.h % 4) (4 * (hs / r))
          ∧ p.sx = (cfg.w - p.sw) / 2 ∧ p.sy = (cfg.h - p.sh) / 2)
      ∧ p.dx = j % c * (ws / c) + (ws / c - p.sw / p.k) / 2 ∧ p.dy = j / c * (hs / r) + (hs / r - p.sh / p.k) / 2
      ∧ p.dx + p.sw / p.k ≤ (j % c + 1) * (ws / c) ∧ p.dy + p.sh / p.k ≤ (j / c + 1) * (hs / r)
      ∧ p.dx + p.sw / p.k ≤ ws ∧ p.dy + p.sh / p.k ≤ hs

/-! ### Statistics Unit and Evaluation Engine -/

/-- R63 to R67: a complete pixel of index p in COLLECTING goes to the tile of its column and row, raising that tile's luma
sum and pixel count; the gradient to its left neighbour is credited when the carried luma is that of index p - 1 in the
same row. An incomplete pixel raises the incomplete count alone and breaks the carry. A luma lies in 0–255.
R63: in COLLECTING, a write hands over each pixel it has at a frame offset from 64 up to the frame size, in order: its index,
and its luma when its four strobes are set; in IDLE and DROPPED none is taken. R62, R69: what clearing a set leaves. -/
def Obligations.PixelsAreCountedInTheirTiles : Prop :=
  (∀ (a : Accumulators) (p y : Nat) (t : Fin 48) (g : Option Nat),
      t.val = 8 * min 5 (p / a.w / a.th) + min 7 (p % a.w / a.tw) →
      (g = match a.carried with
        | none => none
        | some (z, q) => if 1 ≤ p % a.w ∧ q + 1 = p then some (if z ≤ y then y - z else z - y) else none) →
      (a.takePixel p (some y)).tiles[t] = { a.tiles[t] with
          edge := a.tiles[t].edge + g.getD 0
          grad := a.tiles[t].grad + (if g = none then 0 else 1)
          luma := a.tiles[t].luma + y
          pix := a.tiles[t].pix + 1 }
      ∧ (∀ k, k ≠ t → (a.takePixel p (some y)).tiles[k] = a.tiles[k])
      ∧ (a.takePixel p (some y)).carried = some (y, p) ∧ (a.takePixel p (some y)).incomplete = a.incomplete)
    ∧ (∀ (a : Accumulators) (p : Nat),
      a.takePixel p none = { a with incomplete := a.incomplete + 1, carried := none })
    ∧ (∀ r g b : Byte, lumaOf r.toNat g.toNat b.toNat ≤ 255
      ∧ 256 * lumaOf r.toNat g.toNat b.toNat ≤ 77 * r.toNat + 150 * g.toNat + 29 * b.toNat + 128
      ∧ 77 * r.toNat + 150 * g.toNat + 29 * b.toNat + 128 < 256 * (lumaOf r.toNat g.toNat b.toNat + 1))
    ∧ ∀ (a : Accumulators) (o size : Nat) (beats : List WriteBeat), o % 16 = 0 → size % 16 = 0 →
      (a.state = .collecting → a.takeWrite o size beats
        = ((List.range (4 * beats.length)).filter (fun k => decide (64 ≤ o + 4 * k ∧ o + 4 * k < size))).foldl
            (fun b k => b.takePixel ((o + 4 * k - 64) / 4) (writtenLuma beats (4 * k))) a)
      ∧ (a.state ≠ .collecting → a.takeWrite o size beats = a)
      ∧ a.clearSums.carried = none ∧ a.clearSums.incomplete = 0
      ∧ (∀ k : Fin 48, a.clearSums.tiles[k] = ⟨0, 0, 0, 0⟩) ∧ a.clearSums.state = a.state

/-- R73, R79, R80, R88, R93: the completion event applies the outcome to the stream of the record, unless it is marked for
discard; LENS_CHANGE is sent with 512 × the new code + f when the lens state changed; the next queued record begins. That a
completion with no evaluation in flight leaves the state as it is, is the model's, log entry 3.
R182: a dump that waits for this evaluation takes its snapshot within the event, after the outcome and before the next record
begins, and forms its two writes; any other dump is not touched. -/
def Obligations.EvaluationCompletes : Prop :=
  ∀ s : State,
    (s.evals.current = none → exec .evaluationCompletion s = .next s)
    ∧ ∀ (x : InEvaluation) (e : Evaluator) (st' : Stream), s.evals.current = some x →
      (e = match s.evals.queue with
        | [] => { s.evals with current := none }
        | r :: rest => { s.evals with current := some ⟨r, false⟩, queue := rest }) →
      st' = (s.stream x.frame.stream).evaluated s.evals.soiling x.frame →
      ∀ t : State, t = (if x.discard = true then { s with evals := e } else { s with
          evals := e
          streams := modAt s.streams x.frame.stream (fun _ => st')
          notices := if st'.lens.state = (s.stream x.frame.stream).lens.state then s.notices
            else s.notices.take s.time .lensChange x.frame.stream.val (512 * st'.lens.state.code + st'.lens.fraction) }) →
      ((∀ d, s.port.dump = some d → d.snapshot ≠ none ∨ d.stream ≠ x.frame.stream) →
        exec .evaluationCompletion s = .next t)
      ∧ ∀ d, s.port.dump = some d → d.snapshot = none → d.stream = x.frame.stream →
        ∃ a b record own, exec .evaluationCompletion s = .next { t with
            transit := { s.transit with downWaiting := s.transit.downWaiting ++ [a, b], ownCount := own }
            port := { s.port with dump := some { d with snapshot := some record, awaiting := 2 } } }
          ∧ DumpRecordOf d.stream (t.stream d.stream) record
          ∧ WritesRecord (d.dest + 400 * (d.stream.val - d.first)) record a b

/-- R82 to R86, R90: what an OPEN frame does to each tile. An excluded or a sparse tile is not touched. A learning tile
takes E into its running mean, and is SHARP at its last sample. A featureless tile only takes E. Else the ratio moves the
persistence counter, which changes the state when it reaches its limit; and the baseline of a tile that is SHARP then
moves a 2^a-th of the way, rounded down, within 0–65280. A tile is excluded when its row or its column is (R77). -/
def Obligations.TilesFollowTheirRules : Prop :=
  (∀ (c : StreamConfig) (t : Fin 48), c.excludes t = true ↔
      c.exRows.getLsbD (t.val / 8) = true ∨ c.exCols.getLsbD (t.val % 8) = true)
    ∧ ∀ (z : Soiling) (st : Stream) (r : FrameRecord) (t : Fin 48) (x y : Tile) (e q : Nat),
    r.pix ≠ 0 → z.dark ≤ r.luma / r.pix → r.luma / r.pix ≤ z.glare →
    x = st.tiles[t] → y = (st.evaluated z r).tiles[t] →
    e = r.edge[t] * 256 / r.grad[t] → q = min 1023 (e * 256 / x.baseline) →
    (st.cfg.excludes t = true ∨ r.grad[t] < 64 → y = x)
    ∧ (st.cfg.excludes t = false → 64 ≤ r.grad[t] →
      (x.state = .learning →
        y.learned = x.learned + 1 ∧ y.lastE = e ∧ y.lastQ = x.lastQ
        ∧ y.baseline = ((x.baseline : Int) + Int.tdiv ((e : Int) - x.baseline) (x.learned + 1 : Nat)).toNat
        ∧ (if z.learn ≤ x.learned + 1 then y.state = .sharp ∧ y.persist = 0
          else y.state = .learning ∧ y.persist = x.persist))
      ∧ (x.state ≠ .learning → x.baseline < 16 → y = { x with lastE := e })
      ∧ (x.state ≠ .learning → 16 ≤ x.baseline →
        y.learned = x.learned ∧ y.lastE = e ∧ y.lastQ = q
        ∧ (x.state = .sharp → q < z.low → z.persistOn ≤ x.persist + 1 → y.state = .blurred ∧ y.persist = 0)
        ∧ (x.state = .sharp → q < z.low → x.persist + 1 < z.persistOn → y.state = .sharp ∧ y.persist = x.persist + 1)
        ∧ (x.state = .sharp → z.low ≤ q → y.state = .sharp ∧ y.persist = 0)
        ∧ (x.state = .blurred → z.high < q → z.persistOff ≤ x.persist + 1 → y.state = .sharp ∧ y.persist = 0)
        ∧ (x.state = .blurred → z.high < q → x.persist + 1 < z.persistOff →
            y.state = .blurred ∧ y.persist = x.persist + 1)
        ∧ (x.state = .blurred → q ≤ z.high → y.state = .blurred ∧ y.persist = 0)
        ∧ y.baseline = (if y.state = .sharp
            then min 65280 ((x.baseline : Int) + Int.fdiv ((e : Int) - x.baseline) (2 ^ z.adapt : Nat)).toNat
            else x.baseline)))

/-- R81, R89, R90: a frame with no complete pixel, too dark or too bright is gated: one count rises, step 8 records the
evaluation, and no tile, no fraction and no lens state moves.
R87, R88: after an OPEN frame the lens counts its non-excluded tiles past learning, A, and the blurred of them, b.
Below 8 it is not judged. From 8 on f is b × 256 / A, and the lens state follows the table: a lens rises at once, and
falls when f has dropped 16 below the level it crossed. -/
def Obligations.GatedFramesMoveNoTileAndOpenOnesJudgeTheLens : Prop :=
  (∀ (z : Soiling) (st : Stream) (r : FrameRecord) (l : Lens),
    l = { st.lens with
      evaluations := min 4294967295 (st.lens.evaluations + 1)
      lastSeq := some r.sequence } →
    (r.pix = 0 → st.evaluated z r = { st with lens := { l with inconclusive := min 65535 (st.lens.inconclusive + 1) } })
    ∧ (r.pix ≠ 0 → r.luma / r.pix < z.dark →
        st.evaluated z r = { st with lens := { l with dark := min 65535 (st.lens.dark + 1) } })
    ∧ (r.pix ≠ 0 → z.dark ≤ r.luma / r.pix → z.glare < r.luma / r.pix →
        st.evaluated z r = { st with lens := { l with glare := min 65535 (st.lens.glare + 1) } }))
    ∧ (∀ (z : Soiling) (st : Stream) (r : FrameRecord) (a b f : Nat) (l : Lens),
    r.pix ≠ 0 → z.dark ≤ r.luma / r.pix → r.luma / r.pix ≤ z.glare →
    a = ((List.finRange 48).filter (fun t => !st.cfg.excludes t
      && !decide ((st.evaluated z r).tiles[t].state = .learning))).length →
    b = ((List.finRange 48).filter (fun t => !st.cfg.excludes t
      && decide ((st.evaluated z r).tiles[t].state = .blurred))).length →
    f = b * 256 / a → l = (st.evaluated z r).lens →
    l.counted = a ∧ l.blurred = b ∧ l.evaluations = min 4294967295 (st.lens.evaluations + 1)
    ∧ l.lastSeq = some r.sequence ∧ l.dark = st.lens.dark ∧ l.glare = st.lens.glare
    ∧ (a < 8 → l.state = st.lens.state ∧ l.fraction = st.lens.fraction
        ∧ l.inconclusive = min 65535 (st.lens.inconclusive + 1))
    ∧ (8 ≤ a → l.fraction = f ∧ l.inconclusive = st.lens.inconclusive
        ∧ (z.soiled ≤ f → l.state = .soiled)
        ∧ (f < z.soiled → st.lens.state = .learning ∨ st.lens.state = .clean →
            l.state = if z.suspect ≤ f then .suspect else .clean)
        ∧ (f < z.soiled → st.lens.state = .suspect →
            l.state = if (z.suspect : Int) - 16 ≤ f then .suspect else .clean)
        ∧ (f < z.soiled → st.lens.state = .soiled →
            l.state = if (z.soiled : Int) - 16 ≤ f then .soiled
              else if (z.suspect : Int) - 16 ≤ f then .suspect else .clean)))

/-! ### Line Monitor and timers -/

/-- R129, R184: one millisecond advances part time by one, modulo 2^32, and samples every line: a level equal to the
debounced one clears the run count; a different one raises it, and the third in a row becomes the debounced level. What a
change does reaches the side records, the hidden flag, the holds and the notices only, unless an expiry falls in too. The
order of several changes is the sender's (log entry 7).
R130, R141: a change of CAB_B or REVERSE alone recomputes the hidden flag, which then says whether the reverse view is
active and placed on no screen (R140); one that sets it in ACTIVE, or in DRAINING entered from ACTIVE, sends REVERSE_HIDDEN
with the preferred screen and the count of open doors; one that clears or keeps it sends nothing. Nothing else changes (in
a millisecond that no expiry is left over from).
R184: no timer is stepped past. An expiry that is due and not yet taken is taken before part time leaves its value: the
step is the step from the state which that expiry leaves (several in a fixed order: the model's choice, log entry 8). -/
def Obligations.EveryLineIsSampledEachMillisecond : Prop :=
  (∀ (s : State) (levels : BitVec 15) (order : List StepEvent), s.inReset = false →
    ∃ t, exec (.partTimeStep levels order) s = .next t ∧ t.time = s.time + 1
      ∧ (∀ l : Fin 15, t.lines.lines[l] =
          if levels.getLsbD l.val = s.lines.lines[l].debounced then ⟨levels.getLsbD l.val, levels.getLsbD l.val, 0⟩
          else if 2 ≤ s.lines.lines[l].run then ⟨levels.getLsbD l.val, levels.getLsbD l.val, 0⟩
          else ⟨levels.getLsbD l.val, s.lines.lines[l].debounced, s.lines.lines[l].run + 1⟩)
      ∧ t.lines.doorEnable = s.lines.doorEnable ∧ t.lines.linger = s.lines.linger
      ∧ t.lines.reverseEnable = s.lines.reverseEnable ∧ t.lines.preferred = s.lines.preferred
      ∧ t.transit = s.transit ∧ t.evals = s.evals ∧ t.port = s.port ∧ t.pool.content = s.pool.content
      ∧ t.holds.mapping = s.holds.mapping ∧ t.inReset = s.inReset
      ∧ (s.NoneDue s.time → (∀ e ∈ order, ∃ l, e = .line l) → t.streams = s.streams ∧ t.comp = s.comp
        ∧ ((∀ l : Fin 15, levels.getLsbD l.val = s.lines.lines[l].debounced ∨ s.lines.lines[l].run < 2) →
          t.lines.sides = s.lines.sides ∧ t.lines.hidden = s.lines.hidden ∧ t.lines.obstructions = s.lines.obstructions
          ∧ t.holds = s.holds ∧ t.notices = s.notices ∧ t.pool = s.pool)))
    ∧ (∀ (s : State) (levels : BitVec 15) (l : Fin 15), s.onlyChange levels l → l = 12 ∨ l = 13 → s.NoneDue s.time →
      ∃ t, exec (.partTimeStep levels []) s = .next t
        ∧ t = ({ s with time := s.time + 1 } : State).withLines { t.lines with hidden := s.lines.hidden }
        ∧ t.lines.sides = s.lines.sides ∧ t.lines.obstructions = s.lines.obstructions)
    ∧ ∀ (s u : State) (levels : BitVec 15) (order : List StepEvent), s.inReset = false →
      ∀ (streams screens sides : Prop), streams = (∀ i, (s.stream i).cap.timer ≠ some s.time) →
      screens = (∀ c f, (s.screen c).frame = some f → f.expired = false → f.timer ≠ some s.time) →
      sides = (∀ x : Fin 2, s.lines.sides[x].timer ≠ some s.time) →
      ((∃ i, (∀ j, j < i → (s.stream j).cap.timer ≠ some s.time) ∧ exec (.freshnessTimerExpiry i) s = .next u)
        ∨ (∃ c, streams ∧ (∀ d, d < c → ∀ f, (s.screen d).frame = some f → f.expired = false → f.timer ≠ some s.time)
          ∧ exec (.screenFrameTimerExpiry c) s = .next u)
        ∨ (∃ x, streams ∧ screens ∧ (∀ y : Fin 2, y < x → s.lines.sides[y].timer ≠ some s.time)
          ∧ exec (.lingerTimerExpiry x) s = .next u)
        ∨ streams ∧ screens ∧ sides ∧ exec .noticeLingerExpiry s = .next u) →
      exec (.partTimeStep levels order) s = exec (.partTimeStep levels order) u

/-- R130, R132, R144: door d's third high sample opens it. Its side's timer stops and its kept list gains the door and stays
in door-number order; DOOR_BLIND is sent in ACTIVE, and in DRAINING entered from it, with code 1 for no DOOR stream, 2 for a
disabled one, 3 for NO_SIGNAL, 4 for STALE, and not for a LIVE one. Its third low sample closes it: with no other door of
the side open, the linger timer starts, or the kept list is emptied at a linger of 0.
R130, R141: after either the hidden flag is recomputed; when that sets it in those modes, REVERSE_HIDDEN is sent with the
preferred screen and the count of the doors then open, behind a DOOR_BLIND of the opening. Nothing else changes.
When the side's timer expires in the same millisecond, the opening taken first stops it, and the expiry taken first empties
the list before the door joins it; an expiry not named in the order is not taken before the openings (log entries 7 and 8).
(For a millisecond that no expiry is left over from.) -/
def Obligations.DoorLinesMoveTheirSide : Prop :=
  ∀ (s : State) (levels : BitVec 15) (d : Fin 12), s.onlyChange levels ⟨d.val, by omega⟩ → s.NoneDue s.time →
    (levels.getLsbD d.val = true →
      ∃ t q, exec (.partTimeStep levels []) s = .next t ∧ t.lines.doorOpen d = true
        ∧ t = ({ s with time := s.time + 1, notices := q } : State).withLines { t.lines with hidden := s.lines.hidden }
        ∧ t.lines.sides[sideOf d].timer = none
        ∧ (∀ k, k ∈ t.lines.sides[sideOf d].kept ↔ k = d.val ∨ k ∈ s.lines.sides[sideOf d].kept)
        ∧ (s.lines.sides[sideOf d].kept.Pairwise (fun a b => a < b) →
            t.lines.sides[sideOf d].kept.Pairwise (fun a b => a < b))
        ∧ t.lines.sides[other (sideOf d)] = s.lines.sides[other (sideOf d)] ∧ t.lines.obstructions = s.lines.obstructions
        ∧ (s.transit.mode = .pass ∨ s.transit.mode = .draining ∧ s.transit.drainedFrom ≠ .active → q = s.notices)
        ∧ (s.transit.mode = .active ∨ s.transit.mode = .draining ∧ s.transit.drainedFrom = .active →
          ((∀ i, (s.stream i).cfg.role = .door → (s.stream i).cfg.door ≠ d.val) →
            q = s.notices.take (s.time + 1) .doorBlind d.val 1)
          ∧ ∀ i, (s.stream i).cfg.role = .door → (s.stream i).cfg.door = d.val →
            (∀ j, (s.stream j).cfg.role = .door → (s.stream j).cfg.door = d.val → j = i) →
            q = if (s.stream i).cfg.enabled = false then s.notices.take (s.time + 1) .doorBlind d.val 2
            else match (s.stream i).cap.freshness with
              | .noSignal => s.notices.take (s.time + 1) .doorBlind d.val 3
              | .stale => s.notices.take (s.time + 1) .doorBlind d.val 4
              | .live => s.notices))
    ∧ (levels.getLsbD d.val = true → s.lines.sides[sideOf d].timer = some (s.time + 1) →
      ∃ t, exec (.partTimeStep levels [.linger (sideOf d)]) s = .next t ∧ t.lines.doorOpen d = true
        ∧ t.lines.sides[sideOf d] = ⟨none, [d.val]⟩)
    ∧ (levels.getLsbD d.val = false →
      ∃ t, exec (.partTimeStep levels []) s = .next t ∧ t.lines.doorOpen d = false
        ∧ t = ({ s with time := s.time + 1 } : State).withLines { t.lines with hidden := s.lines.hidden }
        ∧ t.lines.sides[other (sideOf d)] = s.lines.sides[other (sideOf d)] ∧ t.lines.obstructions = s.lines.obstructions
        ∧ t.lines.sides[sideOf d] =
          if (∃ k : Fin 12, k ≠ d ∧ sideOf k = sideOf d ∧ s.lines.doorOpen k = true) then s.lines.sides[sideOf d]
          else if 0 < s.lines.linger then
            { s.lines.sides[sideOf d] with timer := some (s.time + 1 + BitVec.ofNat 32 s.lines.linger) }
          else { s.lines.sides[sideOf d] with kept := [] })

/-- R145, R152: the third high sample of OBSTRUCT raises the obstruction count. In ACTIVE, and in DRAINING entered from
ACTIVE, one hold is decided for each open door with an enabled DOOR stream, in ascending door number, with the obstruction
settings, each on the state the one before it left: made, or refused with HOLD_REFUSED. With no such door, and in PASS or
DRAINING entered from it, no group, slot or notice changes. (For a millisecond that no expiry is left over from.) -/
def Obligations.ObstructionHoldsOpenDoors : Prop :=
  ∀ (s : State) (levels : BitVec 15), s.onlyChange levels 14 → levels.getLsbD 14 = true → s.NoneDue s.time →
    ∃ t, exec (.partTimeStep levels []) s = .next t ∧ t.lines.obstructions = min 65535 (s.lines.obstructions + 1)
      ∧ t.lines.sides = s.lines.sides ∧ t.lines.hidden = s.lines.hidden
      ∧ (s.transit.mode = .pass ∨ s.transit.mode = .draining ∧ s.transit.drainedFrom ≠ .active
            ∨ (∀ (d : Fin 12) (i : Fin 16), s.lines.doorOpen d = true → (s.stream i).cfg.role = .door →
              (s.stream i).cfg.door = d.val → (s.stream i).cfg.enabled = false) →
          t.holds = s.holds ∧ t.pool = s.pool ∧ t.notices = s.notices)
      ∧ (s.transit.mode = .active ∨ s.transit.mode = .draining ∧ s.transit.drainedFrom = .active →
        ∀ doors : List (Fin 12), doors.Pairwise (fun a b => a < b) → (∀ d, d ∈ doors ↔ s.lines.doorOpen d = true) →
        ∃ f, s.DoorStreams f ∧ ({ s with time := s.time + 1, lines := t.lines } : State).HoldsInTurn t .obstruction
          s.holds.pre s.holds.post (doors.filterMap (fun d => f d.val)))

/-- R39, R132, R144, R166: the freshness timer of a LIVE stream makes it STALE, with STREAM_STALE and, for the stream of an
open door in ACTIVE, DOOR_BLIND with code 4 (in that order: the model's choice, R163, log entry 30); the linger timer of a
side stops and empties its kept list, and the hidden flag follows; the notice linger timer stops and sets the due flag.
R114: when its timer expires, an OPEN frame becomes EXPIRED: SCREEN_TIMEOUT is sent with the reads accepted, the timeout
count rises, and with no read in flight the frame closes at once.
R184: each timer expires at its stated value of part time, and at no other: an expiry of a timer that is stopped or stands
at another value is no event (log entry 3). -/
def Obligations.TimersExpireWhenDue : Prop :=
  (∀ s : State,
    (∀ i : Fin 16, (s.stream i).cap.timer = some s.time →
      (s.stream i).cap.freshness = .live → ∀ q : NoticeQueue,
      q = s.notices.take s.time .streamStale i.val (s.stream i).cfg.ageLimit →
      exec (.freshnessTimerExpiry i) s = .next { s with
        streams := modAt s.streams i (fun st => { st with cap := { st.cap with freshness := .stale, timer := none } })
        notices := if (s.stream i).cfg.role = .door ∧ (∃ d : Fin 12, (s.stream i).cfg.door = d.val
              ∧ s.lines.doorOpen d = true)
            ∧ (s.transit.mode = .active ∨ s.transit.mode = .draining ∧ s.transit.drainedFrom = .active)
          then q.take s.time .doorBlind (s.stream i).cfg.door 4 else q })
    ∧ (∀ x : Fin 2, s.lines.sides[x].timer = some s.time →
      exec (.lingerTimerExpiry x) s
        = .next (s.withLines { s.lines with sides := modAt s.lines.sides x (fun _ => ⟨none, []⟩) }))
    ∧ (s.notices.timer = some s.time →
      exec .noticeLingerExpiry s = .next { s with notices := { s.notices with
        due := true
        timer := none
        asserted := !s.notices.records.isEmpty } })
    ∧ (∀ i : Fin 16, (s.stream i).cap.timer ≠ some s.time →
      exec (.freshnessTimerExpiry i) s = .next s)
    ∧ (∀ x : Fin 2, s.lines.sides[x].timer ≠ some s.time →
      exec (.lingerTimerExpiry x) s = .next s)
    ∧ (s.notices.timer ≠ some s.time → exec .noticeLingerExpiry s = .next s))
    ∧ (∀ (s : State) (c : Fin 2),
    (∀ f, (s.screen c).frame = some f → f.expired = false → f.timer = some s.time →
      exec (.screenFrameTimerExpiry c) s = .next (if f.inFlight = 0
        then { s with
          pool := s.pool.unpinAll (f.panes.filterMap ViewPane.slot)
          notices := s.notices.take s.time .screenTimeout c.val f.accepted
          comp := { s.comp with screens := modAt s.comp.screens c (fun y =>
            { y with frame := none, timeouts := min 65535 (y.timeouts + 1) }) } }
        else { s with
          notices := s.notices.take s.time .screenTimeout c.val f.accepted
          comp := { s.comp with screens := modAt s.comp.screens c (fun y =>
            { y with frame := some { f with expired := true, timer := none }, timeouts := min 65535 (y.timeouts + 1) }) } }))
    ∧ ((∀ f, (s.screen c).frame = some f → f.expired = true ∨ f.timer ≠ some s.time) →
        exec (.screenFrameTimerExpiry c) s = .next s))

/-! ### Hold Table -/

/-- R150, R151: HOLD of an existing stream in ACTIVE, with pre and post clamped to 1–4 and 0–3, makes a group with the
lowest free id and h frames, DONE with the id and h; or is refused LIMIT with HOLD_REFUSED, coded 1 for no free id, 2 for
no candidate, 3 for eight slots held, 4 otherwise (log entry 23 for the last: the stream has 2 unheld slots, or fewer). In
PASS it is refused STATE, and in every mode BAD_PARAM for a stream above 15.
R49: the candidates are the entries of the content list whose held flag is clear, in its order; the unheld count is the
number of the slot list's slots whose held flag is clear. -/
def Obligations.HoldIsMadeOrRefused : Prop :=
  (∀ (s : State) (i : Fin 16) (pre post : Byte) (p z : Nat), s.hears → p = min 4 (max 1 pre.toNat) → z = min 3 post.toNat →
    (s.transit.mode ≠ .active → exec (.hold (frameOf [BitVec.ofNat 8 i.val, pre, post])) s
      = .next (s.responds 5 .state []))
    ∧ (s.transit.mode = .active →
      (∀ id, s.LowestFreeId id → 0 < s.holdSize i p →
        ∃ t, exec (.hold (frameOf [BitVec.ofNat 8 i.val, pre, post])) s
            = .next (t.responds 5 .done [BitVec.ofNat 8 id, BitVec.ofNat 8 (s.holdSize i p)])
          ∧ s.HoldMade t .command i p z id (s.holdSize i p) ∧ t.lines = s.lines ∧ t.port = s.port ∧ t.time = s.time)
      ∧ ∀ code : Nat, s.HoldRefused i p code →
        exec (.hold (frameOf [BitVec.ofNat 8 i.val, pre, post])) s
          = .next (({ s with notices := s.notices.take s.time .holdRefused i.val code } : State).responds 5 .limit [])))
    ∧ (∀ (s : State) (n pre post : Byte), s.hears → 15 < n.toNat →
      exec (.hold (frameOf [n, pre, post])) s = .next (s.responds 5 .badParam []))
    ∧ ∀ p : SlotPool,
      (∀ (i : Fin 16) (n : Nat), (p.candidates i).Sublist p.content[i]
        ∧ ((∃ x, p.slots[n]? = some x ∧ x.hold ≠ none) → n ∉ p.candidates i)
        ∧ (¬(∃ x, p.slots[n]? = some x ∧ x.hold ≠ none) → (p.candidates i).count n = p.content[i].count n))
      ∧ p.unheldCount [] = 0
      ∧ ∀ (n : Nat) (l : List Nat),
        ((∃ x, p.slots[n]? = some x ∧ x.hold = none) → p.unheldCount (n :: l) = p.unheldCount l + 1)
        ∧ (¬(∃ x, p.slots[n]? = some x ∧ x.hold = none) → p.unheldCount (n :: l) = p.unheldCount l)

/-- R148, R155: RELEASE of a group unholds its slots oldest first, removes the group, clears a mapping that names it, and
sends HOLD_RELEASED with 256 + the number of slots, which is the response; with no such group it is refused NOT_FOUND.
R156: REVIEW replaces the mapping by a new one to the slot at that index of the group, and answers the slot number,
its sequence and its frame size; NOT_FOUND for an id no group has, BAD_PARAM for an index not below the group's slots. -/
def Obligations.ReleaseAndReview : Prop :=
  (∀ (s : State) (id : Byte), s.hears →
    ((∀ g ∈ s.holds.groups, g.id ≠ id.toNat) →
      exec (.release (frameOf [id])) s = .next (s.responds 3 .notFound []))
    ∧ ∀ (pre post : List Group) (g : Group), s.holds.groups = pre ++ g :: post → g.id = id.toNat →
      (∀ y ∈ pre ++ post, y.id ≠ id.toNat) →
      exec (.release (frameOf [id])) s = .next (({ s with
        pool := s.pool.unholdAll g.slots
        holds := { s.holds with
          groups := pre ++ post
          mapping := match s.holds.mapping with
            | none => none
            | some m => if m.group = id.toNat then none else some m }
        notices := s.notices.take s.time .holdReleased id.toNat (256 + g.slots.length) } : State).responds 3 .done
          [BitVec.ofNat 8 g.slots.length]))
    ∧ (∀ (s : State) (id index flag : Byte), s.hears →
    ((∀ g ∈ s.holds.groups, g.id ≠ id.toNat) →
      exec (.review (frameOf [id, index, flag])) s = .next (s.responds 5 .notFound []))
    ∧ ∀ (pre post : List Group) (g : Group), s.holds.groups = pre ++ g :: post → g.id = id.toNat →
      (∀ y ∈ pre, y.id ≠ id.toNat) →
      (g.slots.length ≤ index.toNat → exec (.review (frameOf [id, index, flag])) s = .next (s.responds 5 .badParam []))
      ∧ ∀ n, g.slots[index.toNat]? = some n →
        exec (.review (frameOf [id, index, flag])) s = .next (({ s with
          holds := { s.holds with
            mapping := some ⟨s.holds.nextSerial, id.toNat, index.toNat, n, decide (flag ≠ 0)⟩
            nextSerial := s.holds.nextSerial + 1 } } : State).responds 5 .done
          (leBytes 1 n ++ leBytes 2 (s.pool.record n).sequence.toNat ++ leBytes 4 (s.pool.record n).frameSize)))

/-- R158: a review read accepted under the mapping in force with its flag set, covering the frame's last byte and answered
OKAY on every beat, releases its slot when it has been returned: the pin is dropped, the slot leaves its group and is
unheld, an emptied group goes, the mapping is cleared, and HOLD_RELEASED is sent with 513. Without the flag, under another
mapping or with none, short of the last byte, or with a beat answered ERROR, only the pin is dropped. (For a part that is
not DRAINING and has no request waiting at the port.) -/
def Obligations.ReviewReadAutoReleases : Prop :=
  ∀ (s : State) (id : TxnId) (pre post : List ReadTxn) (x : ReadTxn) (n : Mapping) (o size : Nat) (auto : Bool),
    s.transit.reads = pre ++ x :: post → (∀ y ∈ pre, y.req.id ≠ id) → x.req.id = id →
    x.service = .review n.slot o size n.serial auto → x.req.beats ≤ x.beats.length →
    s.transit.mode ≠ .draining → s.transit.waiting = [] →
    ∀ t : State, t = { s with
        pool := s.pool.unpin n.slot
        transit := { s.transit with reads := pre ++ post, lastAnswer := some (.read id x.beats) } } →
    (auto = false ∨ (∀ m, s.holds.mapping = some m → m.serial ≠ n.serial) ∨ ¬(o < size ∧ size ≤ o + 16 * x.req.beats)
        ∨ (∃ b ∈ x.beats, b.resp = .error) → exec (.answerReturned .read id) s = .next t)
    ∧ ∀ m, s.holds.mapping = some m → auto = true → m = n → o < size → size ≤ o + 16 * x.req.beats →
      (∀ b ∈ x.beats, b.resp = .okay) →
      exec (.answerReturned .read id) s = .next { t with
        pool := (s.pool.unpin m.slot).unhold m.slot
        holds := { s.holds with
          groups := (s.holds.groups.map (fun g =>
            if g.id = m.group then { g with slots := g.slots.erase m.slot } else g)).filter
              (fun g => !(decide (g.id = m.group) && g.slots.isEmpty))
          mapping := none }
        notices := s.notices.take s.time .holdReleased m.group 513 }

/-! ### Notice Queue -/

/-- R164, R165: a disabled kind changes nothing; a coalescing notice of the newest record's kind and subject, below 255
repeats and with nothing lost, raises that record's repeat count and nothing else; any other notice joins the tail with
repeat count 1, part time, and the lost counter as lost-before, which becomes 0 — or, at 32 records, is discarded and the
lost counter rises, saturating at 255. A record added to an empty queue starts the linger timer. -/
def Obligations.NoticesAreTakenByTheirRule : Prop :=
  ∀ (q : NoticeQueue) (now : Time) (k : Kind) (subject value : Nat),
    (q.enable.getLsbD k.code = false → q.take now k subject value = q)
    ∧ (q.enable.getLsbD k.code = true →
      (∀ older newest, q.records = older ++ [newest] → k.coalescing = true → newest.kind = k → newest.subject = subject →
        newest.repeats < 255 → q.lost = 0 →
        q.take now k subject value = { q with records := older ++ [{ newest with repeats := newest.repeats + 1 }] })
      ∧ ((q.records = [] ∨ k.coalescing = false ∨ 0 < q.lost ∨ (∃ older newest, q.records = older ++ [newest]
            ∧ (newest.kind ≠ k ∨ newest.subject ≠ subject ∨ 255 ≤ newest.repeats))) →
        (32 ≤ q.records.length → q.take now k subject value = { q with lost := min 255 (q.lost + 1) })
        ∧ (q.records.length < 32 →
          (q.take now k subject value).records = q.records ++ [⟨k, subject, value, now, 1, q.lost⟩]
          ∧ (q.take now k subject value).lost = 0
          ∧ (q.records = [] → 0 < q.linger → (q.take now k subject value).due = false
              ∧ (q.take now k subject value).timer = some (now + BitVec.ofNat 32 q.linger))
          ∧ (q.records ≠ [] → (q.take now k subject value).due = q.due ∧ (q.take now k subject value).timer = q.timer)
          ∧ (q.take now k subject value).enable = q.enable ∧ (q.take now k subject value).immediate = q.immediate
          ∧ (q.take now k subject value).trigger = q.trigger ∧ (q.take now k subject value).linger = q.linger)))

/-- R171: NOTICE LEVEL answers the number of records, the lost counter, the level of NTF_N and the sum of the conditions
that hold — 1 for the trigger level, 2 for the due flag, 4 for an immediate kind, each on a queue that is not empty — and
changes no state. -/
def Obligations.NoticeLevelReports : Prop :=
  ∀ s : State, s.hears → ∀ sum : Nat,
    sum = (if s.notices.records ≠ [] ∧ s.notices.trigger ≤ s.notices.records.length then 1 else 0)
      + (if s.notices.records ≠ [] ∧ s.notices.due = true then 2 else 0)
      + (if ∃ r ∈ s.notices.records, r.kind = .doorBlind ∨ s.notices.immediate.getLsbD r.kind.code = true then 4 else 0) →
    exec (.noticeLevel (frameOf [])) s = .next (s.responds 2 .done [BitVec.ofNat 8 s.notices.records.length,
      BitVec.ofNat 8 s.notices.lost, if s.notices.asserted = true then 1 else 0, BitVec.ofNat 8 sum])

/-- R166, R170: TAKE NOTICES returns and removes the n oldest records, n clamped to 1–8, each as its ten bytes. For the
record that is oldest then, the due flag is set when it has waited the notice linger, else the timer runs to that time;
NTF_N follows. An empty queue answers a count of 0 and changes nothing.
R168, R169: SET NOTICE stores the trigger level clamped to 1–32, the linger clamped to 1–1000 and the immediate mask
less bits 21–31 and answers them as stored; the due flag and the timer are decided anew for the oldest record under the new
linger, and NTF_N follows: released on an empty queue, asserted at once by a trigger level at or below the count. SET NOTICE
MASK gives each selected kind the value's bit, leaves the others, and answers the mask.
Section 10.1: the codes 0 to 20 of the kinds, in the order of its table, and the coalescing kinds. -/
def Obligations.NoticesAreTakenAndSet : Prop :=
  (∀ (s : State) (n : Byte), s.hears →
    (s.notices.records = [] → exec (.takeNotices (frameOf [n])) s = .next (s.responds 3 .done [0]))
    ∧ (s.notices.records ≠ [] → ∀ (taken rest : List Notice),
      taken = s.notices.records.take (min 8 (max 1 n.toNat)) → s.notices.records = taken ++ rest →
      ∃ q : NoticeQueue, exec (.takeNotices (frameOf [n])) s = .next (({ s with notices := q } : State).responds 3 .done
          (BitVec.ofNat 8 taken.length :: taken.flatMap (fun r => leBytes 1 r.kind.code ++ leBytes 1 r.subject
            ++ leBytes 2 r.value ++ leBytes 4 r.stamp.toNat ++ leBytes 1 r.repeats ++ leBytes 1 r.lostBefore)))
        ∧ q.records = rest ∧ q.lost = s.notices.lost ∧ q.enable = s.notices.enable ∧ q.immediate = s.notices.immediate
        ∧ q.trigger = s.notices.trigger ∧ q.linger = s.notices.linger
        ∧ q.Decided s.time))
    ∧ ((∀ (s : State) (trigger linger immediate : Nat), s.hears → trigger < 256 → linger < 65536 → immediate < 4294967296 →
      ∃ q : NoticeQueue,
        exec (.setNotice (frameOf (leBytes 1 trigger ++ leBytes 2 linger ++ leBytes 4 immediate))) s
          = .next (({ s with notices := q } : State).responds 9 .done
            (leBytes 1 (min 32 (max 1 trigger)) ++ leBytes 2 (min 1000 (max 1 linger)) ++ leBytes 4 (immediate % 2097152)))
        ∧ q.trigger = min 32 (max 1 trigger) ∧ q.linger = min 1000 (max 1 linger)
        ∧ q.immediate = BitVec.ofNat 21 immediate ∧ q.records = s.notices.records ∧ q.lost = s.notices.lost
        ∧ q.enable = s.notices.enable ∧ q.Decided s.time
        ∧ (q.records ≠ [] → min 32 (max 1 trigger) ≤ q.records.length → q.asserted = true))
    ∧ ∀ (s : State) (value select : Nat), s.hears → value < 4294967296 → select < 4294967296 →
      ∃ mask : BitVec 21,
        exec (.setNoticeMask (frameOf (leBytes 4 value ++ leBytes 4 select))) s
          = .next (({ s with notices := { s.notices with enable := mask } } : State).responds 10 .done
            (leBytes 4 mask.toNat))
        ∧ ∀ n, n < 21 → mask.getLsbD n = if select.testBit n then value.testBit n else s.notices.enable.getLsbD n)
    ∧ [Kind.frameLost, .frameDisordered, .sequenceGap, .sequenceRegress, .streamStale, .streamLive, .doorBlind, .lensChange,
        .evalSkipped, .guardHit, .splitAccess, .gatherFault, .screenTimeout, .viewChange, .reverseHidden, .holdMade,
        .holdClamped, .holdRefused, .holdReleased, .dumpDone, .dumpFault].map Kind.code = List.range 21
    ∧ ∀ k : Kind, k.coalescing = true ↔ k = .frameDisordered ∨ k = .evalSkipped ∨ k = .guardHit ∨ k = .splitAccess
        ∨ k = .gatherFault

/-! ### Control Port: frames -/

/-- R173, R175, R184: a request frame whose length byte is missing, differs from the number of parameter bytes, is above
250, or is not the command's length — for SET LAYOUT, not 5 + 15 × its pane count — is refused BAD_PARAM and changes no
state but the buffer. While a mode command is PENDING a request is lost; while RESET_N is asserted it is no event.
R174: a RESPONSE frame of n bytes carries the buffer: FF and 0 when EMPTY, BUSY and 0 when PENDING, the status, the
length and the data when READY, and zeros elsewhere. A READY buffer becomes EMPTY when byte 2 and every data byte have been
clocked out, and stands as it was when the frame is shorter.
R173, R175: a frame of no whole byte is ignored. A frame whose code is not in the table is refused BAD_CODE, is lost
while a mode command is PENDING, and is no event while RESET_N is asserted. -/
def Obligations.FramesAreTakenByTheirForm : Prop :=
  (∀ (c : Instr) (s : State) (body : List Byte), requestBody c = some body →
    (s.inReset = true → exec c s = .next s)
    ∧ (s.inReset = false → ∀ p, s.port.buffer = .pending p →
      exec c s = .next { s with port := { s.port with miso := List.replicate (body.length + 1) 0 } })
    ∧ (s.hears →
      (body = [] → exec c s = .next (s.responds 1 .badParam []))
      ∧ ∀ (l : Byte) (ps : List Byte), body = l :: ps →
        (l.toNat ≠ ps.length ∨ 250 < l.toNat ∨ (∃ n, parameterLength c = some n ∧ ps.length ≠ n)
          ∨ c = .setLayout body ∧ (ps.length < 5 ∨ ∀ n : Byte, ps[4]? = some n → ps.length ≠ 5 + 15 * n.toNat)) →
        exec c s = .next (s.responds (ps.length + 2) .badParam [])))
    ∧ (∀ (s : State) (n : Nat), 1 ≤ n → s.inReset = false →
    ∃ miso : List Byte, miso.length = n
      ∧ exec (.response n) s = .next { s with port := { s.port with
          miso := miso
          buffer := match s.port.buffer with
            | .ready st data => if 3 + data.length ≤ n then .empty else .ready st data
            | b => b } }
      ∧ ∀ k, k < n → miso[k]? = some (match s.port.buffer with
        | .empty => if k = 1 then 0xFF else 0
        | .pending _ => if k = 1 then 2 else 0
        | .ready st data => if k = 1 then BitVec.ofNat 8 st.code else if k = 2 then BitVec.ofNat 8 data.length
            else if 3 ≤ k then (data[k - 3]?).getD 0 else 0))
    ∧ (∀ s : State, exec .emptyFrame s = .next s
    ∧ ∀ code : Byte, ¬(code.toNat ∈ commandCodes) →
      (s.hears → exec (.unknownCommand code) s = .next (s.responds 1 .badCode []))
      ∧ (s.inReset = false → ∀ p, s.port.buffer = .pending p →
        exec (.unknownCommand code) s = .next { s with port := { s.port with miso := [0] } })
      ∧ (s.inReset = true → exec (.unknownCommand code) s = .next s))

/-! ### Control Port: configuration commands -/

/-- R45, R97, R176: SET POOL with addresses on 4 KiB within 36 bits, a slot size that is a multiple of 4,096 and 2–64 slots
is taken in PASS: the pool is set with these values, its records are empty and FREE, and the free list holds them in order.
SET SCREEN sets the record of a screen, its timeout clamped to 20–1000; in ACTIVE it may change the timeout alone; a screen
above 1 is refused BAD_PARAM in every mode. -/
def Obligations.PoolAndScreenSettings : Prop :=
  (∀ (s : State) (base review size count : Nat) (body : List Byte), s.hears → base < 256 ^ 5 → review < 256 ^ 5 →
      size < 256 ^ 4 → count < 256 →
      body = frameOf (leBytes 5 base ++ leBytes 5 review ++ leBytes 4 size ++ leBytes 1 count) →
      (s.transit.mode = .active → exec (.setPool body) s = .next (s.responds 17 .state []))
      ∧ (s.transit.mode ≠ .active → exec (.setPool body) s = .next (
          if base % 4096 = 0 ∧ base ≤ 68719476735 ∧ review % 4096 = 0 ∧ review ≤ 68719476735 ∧ 0 < size
              ∧ size % 4096 = 0 ∧ 2 ≤ count ∧ count ≤ 64 then
            ({ s with pool := {
                isSet := true
                base := base
                review := review
                size := size
                count := count
                slots := List.replicate count ⟨.free, none, false, 0, 0, 0, 0, false, false, 0, none⟩
                free := List.range count
                content := Vector.replicate 16 [] } } : State).responds 17 .done []
          else s.responds 17 .badParam [])))
    ∧ (∀ (s : State) (number base w h timeout : Nat), s.hears → 1 < number → number < 256 →
      exec (.setScreen (frameOf (leBytes 1 number ++ leBytes 5 base ++ leBytes 2 w ++ leBytes 2 h ++ leBytes 2 timeout))) s
        = .next (s.responds 14 .badParam []))
    ∧ ∀ (s : State) (c : Fin 2) (base w h timeout : Nat) (body : List Byte), s.hears → base < 256 ^ 5 → w < 65536 →
      h < 65536 → timeout < 65536 →
      body = frameOf (leBytes 1 c.val ++ leBytes 5 base ++ leBytes 2 w ++ leBytes 2 h ++ leBytes 2 timeout) →
      exec (.setScreen body) s = .next (
        if w < 320 ∨ 1920 < w ∨ w % 4 ≠ 0 ∨ h < 240 ∨ 1200 < h ∨ base % 4096 ≠ 0 ∨ 68719476735 < base then
          s.responds 14 .badParam []
        else if s.transit.mode = .active ∧ ((s.screen c).isSet = false ∨ (s.screen c).base ≠ base
            ∨ (s.screen c).w ≠ w ∨ (s.screen c).h ≠ h) then s.responds 14 .state []
        else ({ s with comp := { s.comp with screens := modAt s.comp.screens c (fun x => { x with
            isSet := true
            base := base
            w := w
            h := h
            timeout := min 1000 (max 20 timeout) }) } } : State).responds 14 .done (leBytes 2 (min 1000 (max 20 timeout))))

/-- R17, R18, R91, R177: SET STREAM with a role replaces the configuration part by its parameters, the age limit clamped to
20–2000, in PASS, and in ACTIVE where R18 allows it; a change of the exclusions that leaves a judged lens fewer than 8
learned tiles makes it LEARNING with LENS_CHANGE. The stored age limit is the response. A door or end role another stream
has is refused IN_USE, in every mode and before the check of R18 (that place of R18 is the model's reading, log entry 13);
what R18 forbids in ACTIVE is refused STATE. With role NONE, in PASS, the base and the slot list are stored as 0 and empty. The door
byte is stored as sent whatever the role (log entry 25). What R17 and R177 refuse BAD_PARAM is so refused in every mode,
before the rest (R175; before R18: log entry 13), whatever the other parameters. -/
def Obligations.SetStreamReplacesTheConfiguration : Prop :=
  (∀ (s : State) (i : Fin 16) (c : StreamConfig) (age : Nat) (body : List Byte), s.hears → c.Takeable → age < 65536 →
    c.ageLimit = min 2000 (max 20 age) → body = frameOf (({ c with ageLimit := age } : StreamConfig).parameters i) →
    ∀ frozen : Prop, frozen = ((s.stream i).cfg.enabled = true ∨ c.enabled = true
        ∨ (s.stream i).cfg.base ≠ c.base ∨ (s.stream i).cfg.slotList ≠ c.slotList ∨ (s.stream i).cfg.role = .none) →
    (s.roleTaken i c → exec (.setStream body) s = .next (s.responds 29 .inUse []))
    ∧ (¬s.roleTaken i c → s.transit.mode = .active → frozen →
      exec (.setStream body) s = .next (s.responds 29 .state []))
    ∧ (¬s.roleTaken i c → s.transit.mode ≠ .active ∨ ¬frozen →
      ((s.stream i).cfg.exRows = c.exRows ∧ (s.stream i).cfg.exCols = c.exCols ∨ (s.stream i).lens.state = .learning
          ∨ 8 ≤ countTiles c (s.stream i).tiles Tile.past →
        exec (.setStream body) s = .next (({ s with
          streams := modAt s.streams i (fun st => { st with cfg := c }) } : State).responds 29 .done
            (leBytes 2 c.ageLimit)))
      ∧ ((s.stream i).cfg.exRows ≠ c.exRows ∨ (s.stream i).cfg.exCols ≠ c.exCols → (s.stream i).lens.state ≠ .learning →
        countTiles c (s.stream i).tiles Tile.past < 8 →
        exec (.setStream body) s = .next (({ s with
          streams := modAt s.streams i (fun st => { st with cfg := c, lens := { st.lens with state := .learning } })
          notices := s.notices.take s.time .lensChange i.val (s.stream i).lens.fraction } : State).responds 29 .done
            (leBytes 2 c.ageLimit)))))
    ∧ (∀ (s : State) (i : Fin 16) (c : StreamConfig), s.hears → c.role = .none → c.enabled = false → c.door < 256 →
      320 ≤ c.w → c.w ≤ 2048 → c.w % 4 = 0 → 240 ≤ c.h → c.h ≤ 1536 → c.base < 68719476736 → c.slotList.length ≤ 6 →
      (∀ n ∈ c.slotList, n < 256) → 20 ≤ c.ageLimit → c.ageLimit ≤ 2000 → s.transit.mode ≠ .active →
      (s.stream i).cfg.exRows = c.exRows → (s.stream i).cfg.exCols = c.exCols →
      exec (.setStream (frameOf (c.parameters i))) s = .next (({ s with
        streams := modAt s.streams i (fun st => { st with cfg := { c with base := 0, slotList := [] } }) } : State).responds
          29 .done (leBytes 2 c.ageLimit)))
    ∧ (∀ (s : State) (number role door identity w h base len age mirror rows cols enabled : Nat) (slots body : List Byte),
      s.hears → number < 256 → role < 256 → door < 256 → w < 65536 → h < 65536 → base < 256 ^ 5 → len < 256 →
      slots.length = 6 → rows < 256 → enabled < 256 →
      body = frameOf (leBytes 1 number ++ leBytes 1 role ++ leBytes 1 door ++ leBytes 2 identity ++ leBytes 2 w ++ leBytes 2 h
        ++ leBytes 5 base ++ leBytes 1 len ++ slots ++ leBytes 2 age ++ leBytes 1 mirror ++ leBytes 1 rows ++ leBytes 1 cols
        ++ leBytes 1 enabled) →
      (15 < number ∨ 4 < role ∨ w < 320 ∨ 2048 < w ∨ w % 4 ≠ 0 ∨ h < 240 ∨ 1536 < h ∨ role = 1 ∧ 11 < door
        ∨ role ≠ 0 ∧ (len < 2 ∨ ¬(slots.take len).Nodup ∨ base % 4096 ≠ 0) ∨ 6 < len ∨ 64 ≤ rows ∨ 68719476736 ≤ base
        ∨ role = 0 ∧ enabled ≠ 0) →
      exec (.setStream body) s = .next (s.responds 29 .badParam []))
    ∧ ∀ (c : StreamConfig) (tiles : Vector Tile 48), countTiles c tiles Tile.past
      = ((List.finRange 48).filter (fun t => !c.excludes t && !decide (tiles[t].state = .learning))).length

/-- R19, R20, R27: ENABLE STREAM sets the flag of a stream with a role; in ACTIVE it needs the stream's window (STATE
without it), no steered write awaiting, and a frame that fits window and slot, and makes the running part IDLE and
NO_SIGNAL; a stream enabled already is left as it is. DISABLE STREAM clears the flag; in ACTIVE it abandons a frame in
progress, whose slot goes back at once when no steered write awaits and is kept until then otherwise, removes the stream's
queued records, stops its freshness, and sends DOOR_BLIND with code 2 (R144) when the stream's door is open; its held writes
are taken at once as writes to a disabled stream (R31): absorbed with OKAY and counted as orphans. R5: the stream's window is
the one of the map with its number. Either is refused BAD_PARAM for a stream above 15. -/
def Obligations.EnableAndDisable : Prop :=
  (∀ (ws : List Window) (i : Fin 16), (∀ w, windowOfStream ws i = some w → w ∈ ws ∧ w.kind = .capture i)
      ∧ (windowOfStream ws i = none → ∀ w ∈ ws, w.kind ≠ .capture i))
    ∧ (∀ (s : State) (n : Byte), s.hears → 15 < n.toNat →
      exec (.enableStream (frameOf [n])) s = .next (s.responds 3 .badParam [])
      ∧ exec (.disableStream (frameOf [n])) s = .next (s.responds 3 .badParam []))
    ∧ ∀ (s : State) (i : Fin 16), s.hears →
    ((s.stream i).cfg.role = .none →
      exec (.enableStream (frameOf [BitVec.ofNat 8 i.val])) s = .next (s.responds 3 .state []))
    ∧ ((s.stream i).cfg.role ≠ .none → s.transit.mode ≠ .active →
      exec (.enableStream (frameOf [BitVec.ofNat 8 i.val])) s = .next (({ s with
        streams := modAt s.streams i (fun st => { st with cfg := { st.cfg with enabled := true } }) } : State).responds
          3 .done []))
    ∧ ((s.stream i).cfg.role ≠ .none → s.transit.mode = .active → (s.stream i).cfg.enabled = false →
      ∀ w, windowOfStream s.transit.windows i = some w →
      exec (.enableStream (frameOf [BitVec.ofNat 8 i.val])) s = .next (
        if 0 < (s.stream i).cap.awaiting then s.responds 3 .state []
        else if w.extent < 64 + 4 * (s.stream i).cfg.w * (s.stream i).cfg.h
            ∨ s.pool.size < 64 + 4 * (s.stream i).cfg.w * (s.stream i).cfg.h then s.responds 3 .tooLarge []
        else ({ s with streams := modAt s.streams i (fun st => { st with
            cfg := { st.cfg with enabled := true }
            cap := { st.cap with fill := none, freshness := .noSignal, timer := none, lastSeq := none } }) } :
              State).responds 3 .done []))
    ∧ ((s.stream i).cfg.role ≠ .none → s.transit.mode = .active → windowOfStream s.transit.windows i = none →
      exec (.enableStream (frameOf [BitVec.ofNat 8 i.val])) s = .next (s.responds 3 .state []))
    ∧ ((s.stream i).cfg.role ≠ .none → s.transit.mode = .active → (s.stream i).cfg.enabled = true →
      ∀ w, windowOfStream s.transit.windows i = some w → 64 + 4 * (s.stream i).cfg.w * (s.stream i).cfg.h ≤ w.extent →
      64 + 4 * (s.stream i).cfg.w * (s.stream i).cfg.h ≤ s.pool.size →
      exec (.enableStream (frameOf [BitVec.ofNat 8 i.val])) s = .next (s.responds 3 .done []))
    ∧ ((s.stream i).cfg.enabled = false →
      exec (.disableStream (frameOf [BitVec.ofNat 8 i.val])) s = .next (s.responds 3 .done []))
    ∧ ((s.stream i).cfg.enabled = true → s.transit.mode ≠ .active →
      exec (.disableStream (frameOf [BitVec.ofNat 8 i.val])) s = .next (({ s with
        streams := modAt s.streams i (fun st => { st with cfg := { st.cfg with enabled := false } }) } : State).responds
          3 .done []))
    ∧ ((s.stream i).cfg.enabled = true → s.transit.mode = .active →
      exec (.disableStream (frameOf [BitVec.ofNat 8 i.val])) s = .next (({ s with
        transit := { s.transit with writes := s.transit.writes.map (fun x =>
          if ∃ w ∈ (s.stream i).cap.heldWrites, w.key = x.key then
            { x with service := .absorbed, response := some .okay } else x) }
        notices := if (s.stream i).cfg.role = .door ∧ (∃ d : Fin 12, (s.stream i).cfg.door = d.val
            ∧ s.lines.doorOpen d = true)
          then s.notices.take s.time .doorBlind (s.stream i).cfg.door 2 else s.notices
        pool := match (s.stream i).cap.fill with
          | none => s.pool
          | some f => if (s.stream i).cap.awaiting = 0 then s.pool.handBack f.slot else s.pool
        evals := { s.evals with queue := s.evals.queue.filter (fun r => !decide (r.stream = i)) }
        streams := modAt s.streams i (fun st => { st with
          cfg := { st.cfg with enabled := false }
          acc := if st.cap.fill = none then st.acc else { st.acc.clearSums with state := .idle }
          cap := { st.cap with
            fill := none
            abandoned := match st.cap.fill with
              | none => st.cap.abandoned
              | some f => if st.cap.awaiting = 0 then st.cap.abandoned else some f.slot
            heldWrites := []
            orphans := if st.cap.heldWrites = [] then st.cap.orphans
              else min 65535 (st.cap.orphans + st.cap.heldWrites.length)
            freshness := .noSignal
            timer := none } }) } : State).responds 3 .done []))

/-- R98 to R100: SET LAYOUT replaces a stored layout's background and pane list, unless an open screen frame was latched
from it, which refuses it IN_USE. Before that, and whatever the rest, it is refused BAD_PARAM for a layout above 15, a pane
count above 6, or a pane with a stream above 15, k outside 1–4, sw or sh 0 or not a multiple of k, a crop outside its
stream's frame, or flags above 3 (R98, and R175 for the order). SELECT LAYOUT names the requested layout of a screen.
R134, R141, R142, R153: SET DOOR VIEW stores the enable and the linger clamped to 30000, unless it would clear the
enable with a door open, which is refused DOORS_OPEN; SET REVERSE VIEW stores the enable and the preferred screen; after
either the hidden flag follows. SET HOLD stores the pre and post counts clamped to 1–4 and 0–3. -/
def Obligations.LayoutViewAndHoldSettings : Prop :=
  ((∀ (s : State) (m : Fin 16) (bg : Colour) (panes : List Pane), s.hears → panes.length ≤ 6 →
      (∀ p ∈ panes, p.sx < 65536 ∧ p.sy < 65536 ∧ p.sw < 65536 ∧ p.sh < 65536 ∧ p.dx < 65536 ∧ p.dy < 65536
        ∧ 1 ≤ p.k ∧ p.k ≤ 4 ∧ p.sw ≠ 0 ∧ p.sh ≠ 0 ∧ p.sw % p.k = 0 ∧ p.sh % p.k = 0
        ∧ p.sx + p.sw ≤ (s.stream p.stream).cfg.w ∧ p.sy + p.sh ≤ (s.stream p.stream).cfg.h) →
      ∀ body, body = frameOf ([BitVec.ofNat 8 m.val, bg.r, bg.g, bg.b, BitVec.ofNat 8 panes.length]
        ++ panes.flatMap Pane.parameters) →
      ((∃ (c : Fin 2) (f : ScreenFrame), (s.screen c).frame = some f ∧ f.kind = .requested ∧ f.layout = some m) →
        exec (.setLayout body) s = .next (s.responds (7 + 15 * panes.length) .inUse []))
      ∧ ((∀ (c : Fin 2) (f : ScreenFrame), (s.screen c).frame = some f → f.kind = .requested → f.layout ≠ some m) →
        exec (.setLayout body) s = .next (({ s with comp := { s.comp with
          layouts := modAt s.comp.layouts m (fun _ => ⟨bg, panes⟩) } } : State).responds
            (7 + 15 * panes.length) .done [])))
    ∧ (∀ (s : State) (m r g b count : Byte) (rest : List Byte), s.hears → rest.length = 15 * count.toNat →
      (15 < m.toNat ∨ 6 < count.toNat
        ∨ ∃ (pre post : List Byte) (stream sx sy sw sh k dx dy flags : Nat), pre.length % 15 = 0
          ∧ rest = pre ++ (leBytes 1 stream ++ leBytes 2 sx ++ leBytes 2 sy ++ leBytes 2 sw ++ leBytes 2 sh ++ leBytes 1 k
            ++ leBytes 2 dx ++ leBytes 2 dy ++ leBytes 1 flags) ++ post
          ∧ stream < 256 ∧ sx < 65536 ∧ sy < 65536 ∧ sw < 65536 ∧ sh < 65536 ∧ k < 256 ∧ flags < 256
          ∧ (15 < stream ∨ k = 0 ∨ 4 < k ∨ sw = 0 ∨ sh = 0 ∨ sw % k ≠ 0 ∨ sh % k ≠ 0 ∨ 3 < flags
            ∨ ∃ i : Fin 16, stream = i.val ∧ ((s.stream i).cfg.w < sx + sw ∨ (s.stream i).cfg.h < sy + sh))) →
      exec (.setLayout (frameOf ([m, r, g, b, count] ++ rest))) s = .next (s.responds (7 + rest.length) .badParam []))
    ∧ ∀ (s : State) (c m : Byte), s.hears →
      (1 < c.toNat ∨ 15 < m.toNat → exec (.selectLayout (frameOf [c, m])) s = .next (s.responds 4 .badParam []))
      ∧ ∀ (c' : Fin 2) (m' : Fin 16), c.toNat = c'.val → m.toNat = m'.val →
        exec (.selectLayout (frameOf [c, m])) s = .next (({ s with comp := { s.comp with
          screens := modAt s.comp.screens c' (fun x => { x with requested := m' }) } } : State).responds 4 .done []))
    ∧ (∀ (s : State) (enable : Byte) (linger : Nat), s.hears → linger < 65536 →
      (enable = 0 → (∃ d, s.lines.doorOpen d = true) →
        exec (.setDoorView (frameOf (enable :: leBytes 2 linger))) s = .next (s.responds 5 .doorsOpen []))
      ∧ (enable ≠ 0 ∨ (∀ d, s.lines.doorOpen d = false) →
        exec (.setDoorView (frameOf (enable :: leBytes 2 linger))) s = .next ((s.withLines { s.lines with
          doorEnable := decide (enable ≠ 0)
          linger := min 30000 linger }).responds 5 .done (leBytes 2 (min 30000 linger)))))
    ∧ (∀ (s : State) (enable screen : Byte), s.hears →
      (1 < screen.toNat → exec (.setReverseView (frameOf [enable, screen])) s = .next (s.responds 4 .badParam []))
      ∧ ∀ c : Fin 2, screen.toNat = c.val →
        exec (.setReverseView (frameOf [enable, screen])) s = .next ((s.withLines { s.lines with
          reverseEnable := decide (enable ≠ 0)
          preferred := c }).responds 4 .done []))
    ∧ ∀ (s : State) (pre post : Byte), s.hears →
      exec (.setHold (frameOf [pre, post])) s = .next (({ s with holds := { s.holds with
        pre := min 4 (max 1 pre.toNat)
        post := min 3 post.toNat } } : State).responds 4 .done
          [BitVec.ofNat 8 (min 4 (max 1 pre.toNat)), BitVec.ofNat 8 (min 3 post.toNat)])

/-- R76: SET SOILING clamps persist-on, persist-off, the learn length and the adapt shift, refuses BAD_PARAM a threshold or
level above its range, a low threshold not below the high one, a soiled level below suspect + 16, and a dark limit not
below the glare limit, and else stores every setting and answers the 15 bytes as stored; that the badge enable is then
answered as 0 or 1 is the model's, log entry 24.
R92: RESET BASELINE makes every tile of its stream LEARNING with zero fields and the lens LEARNING with f, A and b 0,
sends LENS_CHANGE with value 0 when it was not LEARNING, and marks the stream's record in evaluation for discard; counts,
queued records and other streams are kept. -/
def Obligations.SoilingAndBaselineCommands : Prop :=
  (∀ (s : State) (low high suspect soiled : Nat) (on off learn adapt dark glare badge : Byte), s.hears →
    low < 65536 → high < 65536 → suspect < 65536 → soiled < 65536 →
    ∀ (body : List Byte) (z : Soiling), body = frameOf (leBytes 2 low ++ leBytes 2 high ++ [on, off, learn, adapt]
      ++ leBytes 2 suspect ++ leBytes 2 soiled ++ [dark, glare, badge]) →
    z = ⟨low, high, min 15 (max 1 on.toNat), min 15 (max 1 off.toNat), min 32 (max 4 learn.toNat),
      min 8 (max 3 adapt.toNat), suspect, soiled, dark.toNat, glare.toNat, decide (badge ≠ 0)⟩ →
    exec (.setSoiling body) s = .next (
      if 1023 < low ∨ 1023 < high ∨ 256 < suspect ∨ 256 < soiled ∨ high ≤ low ∨ soiled < suspect + 16
          ∨ glare.toNat ≤ dark.toNat then s.responds 17 .badParam []
      else ({ s with evals := { s.evals with soiling := z } } : State).responds 17 .done
        (leBytes 2 z.low ++ leBytes 2 z.high ++ [BitVec.ofNat 8 z.persistOn, BitVec.ofNat 8 z.persistOff,
          BitVec.ofNat 8 z.learn, BitVec.ofNat 8 z.adapt] ++ leBytes 2 z.suspect ++ leBytes 2 z.soiled
          ++ [dark, glare, if z.badge = true then 1 else 0])))
    ∧ (∀ (s : State) (n : Byte), s.hears →
    (15 < n.toNat → exec (.resetBaseline (frameOf [n])) s = .next (s.responds 3 .badParam []))
    ∧ ∀ i : Fin 16, n.toNat = i.val →
      exec (.resetBaseline (frameOf [n])) s = .next (({ s with
        streams := modAt s.streams i (fun st => { st with
          tiles := Vector.replicate 48 ⟨.learning, 0, 0, 0, 0, 0⟩
          lens := { st.lens with state := .learning, fraction := 0, counted := 0, blurred := 0 } })
        evals := { s.evals with current := match s.evals.current with
          | none => none
          | some x => some (if x.frame.stream = i then { x with discard := true } else x) }
        notices := if (s.stream i).lens.state = .learning then s.notices
          else s.notices.take s.time .lensChange i.val 0 } : State).responds 3 .done []))

/-! ### Control Port: mode commands -/

/-- R6, R13, R178: what passes COMMIT: the pool set; slot numbers below the slot count, and none in the lists of two streams
with a role; no window above FFFFFFFFF; no byte in two windows or in a window and the range of a running dump; and every
enabled frame within a slot. The first of the seven checks that fails decides the status, and the least pair of data bytes
among the items that fail it is the data. A failed check answers its status and two bytes and changes nothing. -/
def Obligations.CommitChecksTheConfiguration : Prop :=
  ∀ s : State,
    (s.commitFailure = none ↔
      s.pool.isSet = true
      ∧ (∀ i n, (s.stream i).cfg.role ≠ .none → n ∈ (s.stream i).cfg.slotList → n < s.pool.count)
      ∧ (∀ i j n, i ≠ j → (s.stream i).cfg.role ≠ .none → (s.stream j).cfg.role ≠ .none →
          n ∈ (s.stream i).cfg.slotList → n ∉ (s.stream j).cfg.slotList)
      ∧ (∀ w ∈ s.buildWindows, w.base + w.extent ≤ 68719476736)
      ∧ (∀ v ∈ s.buildWindows, ∀ w ∈ s.buildWindows, v.kind ≠ w.kind →
          ∀ b, v.base ≤ b → b < v.base + v.extent → ¬(w.base ≤ b ∧ b < w.base + w.extent))
      ∧ (∀ d, s.port.dump = some d → ∀ w ∈ s.buildWindows, ∀ b, w.base ≤ b → b < w.base + w.extent →
          ¬(d.dest ≤ b ∧ b < d.dest + 400 * (d.last - d.first + 1)))
      ∧ ∀ i, (s.stream i).cfg.role ≠ .none → (s.stream i).cfg.enabled = true →
          64 + 4 * (s.stream i).cfg.w * (s.stream i).cfg.h ≤ s.pool.size)
    ∧ (∀ (n : Nat) st (p : Nat → Nat → Prop) a b, s.commitChecks[n]? = some (st, p) →
        (∀ m : Nat, m < n → ∀ st' (p' : Nat → Nat → Prop), s.commitChecks[m]? = some (st', p') → ∀ c d, ¬p' c d) →
        LeastPair p a b → s.commitFailure = some (st, a, b))
    ∧ (s.hears → s.transit.mode = .active → exec (.commit (frameOf [])) s = .next (s.responds 2 .state []))
    ∧ ∀ st a b, s.hears → s.transit.mode ≠ .active → s.commitFailure = some (st, a, b) →
        exec (.commit (frameOf [])) s = .next (s.responds 2 st [BitVec.ofNat 8 a, BitVec.ofNat 8 b])

/-- R13, R173, R179: COMMIT in PASS with every check passed, RETURN TO PASS in ACTIVE with no hold group, and SOFT RESET
enter DRAINING while a transaction is in flight: the pending change and the mode left are kept, the buffer is PENDING, and
nothing else changes. RETURN TO PASS is refused STATE outside ACTIVE and HOLDS_PRESENT with a group. -/
def Obligations.ModeCommandsEnterDraining : Prop :=
  ∀ s : State, s.hears →
    (∀ change : Change, (s.transit.reads ≠ [] ∨ s.transit.writes ≠ []) → ∀ t : State, t = { s with
        transit := { s.transit with mode := .draining, change := change, drainedFrom := s.transit.mode }
        port := { s.port with buffer := .pending change, miso := [0, 0] } } →
      (change = .enterActive → s.transit.mode ≠ .active → s.commitFailure = none →
        exec (.commit (frameOf [])) s = .next t)
      ∧ (change = .returnToPass → s.transit.mode = .active → s.holds.groups = [] →
        exec (.returnToPass (frameOf [])) s = .next t)
      ∧ (change = .softReset → exec (.softReset (frameOf [])) s = .next t))
    ∧ (s.transit.mode ≠ .active → exec (.returnToPass (frameOf [])) s = .next (s.responds 2 .state []))
    ∧ (s.transit.mode = .active → s.holds.groups ≠ [] →
      exec (.returnToPass (frameOf [])) s = .next (s.responds 2 .holdsPresent []))

/-- R5, R15, R42, R46, R59, R75, R118: with nothing in flight COMMIT completes at once: ACTIVE with the map built, the
command DONE, every stream IDLE and NO_SIGNAL with its sequence unknown and no measurement, every slot FREE and empty with
its owner from the slot lists, the free list in number order, no content, no queued record, and no kept view.
R5, section 1.2: the map has one window for each kind and index, at the base the configuration gives: of each stream with a
role, 64 + 4 × W × H bytes rounded up to a multiple of 4,096; of each screen that is set, 4 × W_s × H_s; and with the pool
set, the review aperture of one slot and the frame pool of all. -/
def Obligations.CommitEntersActive : Prop :=
  (∀ s : State, (s.buildWindows.map Window.kind).Nodup ∧ ∀ w, w ∈ s.buildWindows ↔
      (∃ i extent, (s.stream i).cfg.role ≠ .none ∧ extent % 4096 = 0
        ∧ 64 + 4 * (s.stream i).cfg.w * (s.stream i).cfg.h ≤ extent
        ∧ extent < 64 + 4 * (s.stream i).cfg.w * (s.stream i).cfg.h + 4096
        ∧ w = ⟨.capture i, (s.stream i).cfg.base, extent⟩)
      ∨ (∃ c, (s.screen c).isSet = true ∧ w = ⟨.screen c, (s.screen c).base, 4 * (s.screen c).w * (s.screen c).h⟩)
      ∨ s.pool.isSet = true
        ∧ (w = ⟨.review, s.pool.review, s.pool.size⟩ ∨ w = ⟨.pool, s.pool.base, s.pool.size * s.pool.count⟩))
    ∧ ∀ s : State, s.hears → s.transit.mode ≠ .active → s.commitFailure = none → s.transit.reads = [] →
    s.transit.writes = [] → s.transit.waiting = [] →
    ∃ t, exec (.commit (frameOf [])) s = .next t
      ∧ t.transit = { s.transit with
          mode := .active, change := .none, drainedFrom := s.transit.mode, windows := s.buildWindows }
      ∧ t.port = { s.port with buffer := .ready .done [], miso := [0, 0] }
      ∧ (∀ i, t.stream i = { s.stream i with
          cap := { (s.stream i).cap with
            fill := none, awaiting := 0, heldWrites := [], abandoned := none
            freshness := .noSignal, timer := none, lastSeq := none }
          acc := { (s.stream i).acc.clearSums with state := .idle } })
      ∧ t.pool.free = List.range s.pool.slots.length ∧ (∀ i : Fin 16, t.pool.content[i] = [])
      ∧ t.pool.isSet = s.pool.isSet ∧ t.pool.base = s.pool.base ∧ t.pool.review = s.pool.review
      ∧ t.pool.size = s.pool.size ∧ t.pool.count = s.pool.count
      ∧ (∀ n x, s.pool.slots[n]? = some x → ∃ owner, t.pool.slots[n]? = some
            ⟨.free, owner, false, 0, 0, 0, 0, false, false, 0, none⟩
          ∧ (∀ i, (s.stream i).cfg.role ≠ .none → n ∈ (s.stream i).cfg.slotList → owner = some i)
          ∧ ((∀ i, (s.stream i).cfg.role ≠ .none → n ∉ (s.stream i).cfg.slotList) → owner = none))
      ∧ t.evals = { s.evals with queue := [] }
      ∧ (∀ c, t.screen c = { s.screen c with frame := none, kept := none, prevKind := .requested })
      ∧ t.comp.layouts = s.comp.layouts ∧ t.holds = s.holds ∧ t.time = s.time ∧ t.lines.lines = s.lines.lines
      ∧ t.notices = s.notices
      ∧ t.lines.sides = s.lines.sides ∧ t.lines.hidden = s.lines.reverseIsHidden

/-- R15, R43, R44, R60, R75, R96, R118, R147, R161, R162, R172, R179: with nothing in flight RETURN TO PASS and SOFT RESET
complete at once: PASS with no map, the command DONE, every slot FREE and empty, every content list empty, every stream IDLE
and NO_SIGNAL, no frame, no kept view, no group, no mapping; the pool configuration, the owning streams and the layouts are
kept. RETURN TO PASS keeps counts, judgements, notices (with the hidden flag as R141 has it), part time and a dump; SOFT
RESET clears them, sets the lines low, and keeps every configuration and setting. -/
def Obligations.ReturnAndSoftResetLeaveActive : Prop :=
  ∀ s : State, s.hears → s.transit.reads = [] → s.transit.writes = [] → s.transit.waiting = [] →
    (s.transit.mode = .active → s.holds.groups = [] → ∃ t, exec (.returnToPass (frameOf [])) s = .next t
      ∧ t.transit = { s.transit with mode := .pass, change := .none, drainedFrom := .active, windows := [] }
      ∧ t.port = { s.port with buffer := .ready .done [], miso := [0, 0] }
      ∧ (∀ i, t.stream i = { s.stream i with
          cap := { (s.stream i).cap with
            fill := none, awaiting := 0, heldWrites := [], abandoned := none
            freshness := .noSignal, timer := none, lastSeq := none }
          acc := { (s.stream i).acc.clearSums with state := .idle } })
      ∧ t.pool.free = List.range s.pool.slots.length
      ∧ (∀ n : Nat, t.pool.slots[n]? = (s.pool.slots[n]?).map (fun x : Slot =>
          (⟨.free, x.owner, false, 0, 0, 0, 0, false, false, 0, none⟩ : Slot)))
      ∧ t.pool.isSet = s.pool.isSet ∧ t.pool.base = s.pool.base ∧ t.pool.review = s.pool.review
      ∧ t.pool.size = s.pool.size ∧ t.pool.count = s.pool.count ∧ (∀ i : Fin 16, t.pool.content[i] = [])
      ∧ t.holds = { s.holds with groups := [], mapping := none } ∧ t.evals = { s.evals with queue := [] }
      ∧ (∀ c, t.screen c = { s.screen c with frame := none, kept := none, prevKind := .requested })
      ∧ t.comp.layouts = s.comp.layouts
      ∧ t.time = s.time ∧ t.lines.lines = s.lines.lines ∧ t.lines.sides = s.lines.sides
      ∧ (s.HiddenFlagExact → t.notices = s.notices ∧ t.lines = s.lines))
    ∧ ∃ t, exec (.softReset (frameOf [])) s = .next t
      ∧ t.transit.mode = .pass ∧ t.transit.change = .none ∧ t.transit.windows = []
      ∧ (∀ r ∈ t.transit.downWaiting ++ t.transit.downIssued, r.owner ≠ .dump false)
      ∧ t.port = { s.port with buffer := .ready .done [], miso := [0, 0], dump := none }
      ∧ (∀ i, (t.stream i).cfg = (s.stream i).cfg
          ∧ (t.stream i).cap = ⟨none, 0, [], none, .noSignal, none, none, 0, 0, 0⟩
          ∧ (t.stream i).acc.state = .idle ∧ (t.stream i).acc.skipped = 0 ∧ (t.stream i).acc.lastOffered = none
          ∧ (t.stream i).acc.lastComplete = 0 ∧ (t.stream i).acc.lastIncomplete = 0
          ∧ (∀ k : Fin 48, (t.stream i).tiles[k] = ⟨.learning, 0, 0, 0, 0, 0⟩)
          ∧ (t.stream i).lens = ⟨.learning, 0, 0, 0, 0, 0, 0, 0, none⟩)
      ∧ t.pool.free = List.range s.pool.slots.length
      ∧ (∀ n : Nat, t.pool.slots[n]? = (s.pool.slots[n]?).map (fun x : Slot =>
          (⟨.free, x.owner, false, 0, 0, 0, 0, false, false, 0, none⟩ : Slot)))
      ∧ t.pool.isSet = s.pool.isSet ∧ t.pool.base = s.pool.base ∧ t.pool.review = s.pool.review
      ∧ t.pool.size = s.pool.size ∧ t.pool.count = s.pool.count ∧ (∀ i : Fin 16, t.pool.content[i] = [])
      ∧ t.holds = { s.holds with groups := [], mapping := none }
      ∧ t.evals = { s.evals with queue := [], current := none }
      ∧ (∀ c, t.screen c = { s.screen c with
          frame := none, kept := none, prevKind := .requested
          latches := 0, restarts := 0, timeouts := 0, unlatchedReads := 0, faults := 0 })
      ∧ t.comp.layouts = s.comp.layouts
      ∧ t.notices = { s.notices with records := [], lost := 0, due := false, timer := none, asserted := false }
      ∧ t.time = 0 ∧ (∀ l : Fin 15, t.lines.lines[l] = ⟨false, false, 0⟩) ∧ (∀ x : Fin 2, t.lines.sides[x] = ⟨none, []⟩)
      ∧ t.lines.hidden = false ∧ t.lines.obstructions = 0 ∧ t.lines.doorEnable = s.lines.doorEnable
      ∧ t.lines.linger = s.lines.linger ∧ t.lines.reverseEnable = s.lines.reverseEnable
      ∧ t.lines.preferred = s.lines.preferred

/-! ### Control Port: dumps and readouts -/

/-- R181, R182: a DUMP TILES that is not refused is ACCEPTED. With the first stream not in evaluation, its record is taken
at once, as section 11.7 lays it out, and formed into two own writes, of 16 and of 9 beats, at the destination, every strobe
set, the record's bytes in order; with it in evaluation the dump waits. A first stream above the last, or a destination off
16, is BAD_PARAM; a range above FFFFFFFFF or on a window BAD_ADDRESS; a running dump BUSY. -/
def Obligations.DumpStarts : Prop :=
  ∀ (s : State) (number last dest l stop : Nat) (body : List Byte), s.hears → number < 256 → last < 256 →
    dest < 256 ^ 5 → body = frameOf (leBytes 1 number ++ leBytes 1 last ++ leBytes 5 dest) → l = min 15 last →
    stop = dest + 400 * (l - number + 1) →
    (l < number ∨ dest % 16 ≠ 0 → exec (.dumpTiles body) s = .next (s.responds 9 .badParam []))
    ∧ ∀ first : Fin 16, first.val = number → (first.val ≤ l → dest % 16 = 0 →
      (68719476736 < stop ∨ (∃ w ∈ (if s.transit.mode = .active then s.transit.windows else s.buildWindows),
          ∃ b, w.base ≤ b ∧ b < w.base + w.extent ∧ dest ≤ b ∧ b < stop) →
        exec (.dumpTiles body) s = .next (s.responds 9 .badAddress []))
      ∧ (stop ≤ 68719476736 → (∀ w ∈ (if s.transit.mode = .active then s.transit.windows else s.buildWindows),
          ∀ b, w.base ≤ b → b < w.base + w.extent → ¬(dest ≤ b ∧ b < stop)) →
        (s.port.dump ≠ none → exec (.dumpTiles body) s = .next (s.responds 9 .busy []))
        ∧ (s.port.dump = none → (∃ x, s.evals.current = some x ∧ x.frame.stream = first) →
          exec (.dumpTiles body) s = .next (({ s with port := { s.port with
            dump := some ⟨first.val, l, dest, first, none, 0, false, 0⟩ } } : State).responds 9 .accepted []))
        ∧ (s.port.dump = none → (∀ x, s.evals.current = some x → x.frame.stream ≠ first) →
          ∃ (t : State) (a b : DownReq) (record : List Byte), DumpRecordOf first (s.stream first) record
            ∧ exec (.dumpTiles body) s = .next (t.responds 9 .accepted [])
            ∧ t.port = { s.port with dump := some ⟨first.val, l, dest, first, some record, 2, false, 0⟩ }
            ∧ t.transit.downWaiting = s.transit.downWaiting ++ [a, b] ∧ WritesRecord dest record a b
            ∧ t.streams = s.streams ∧ t.evals = s.evals ∧ t.pool = s.pool ∧ t.notices = s.notices)))

/-- R182, R183: the response of a dump write lowers the count awaited, ERROR setting error seen. When both are answered:
with an error, DUMP_FAULT with the stream and the records written ends the dump; at the last stream DUMP_DONE with the
records written does; else the next stream is begun, its record of section 11.7 written by two writes at the destination +
400 × (stream − first), or, when it is in evaluation, waited for. The response of a write whose dump SOFT RESET abandoned is discarded.
The n-th issued dump write is named by its place at the downstream port (log entry 4). -/
def Obligations.DumpWritesAreAnswered : Prop :=
  ∀ (s : State) (n : Nat) (resp : Resp) (pre post : List DownReq) (r : DownReq) (gone : Bool),
    s.transit.downIssued = pre ++ r :: post → (pre.filter DownReq.isDump).length = n → r.owner = .dump gone → r.left = 1 →
    ∀ t : State, t = { s with transit := { s.transit with downIssued := pre ++ post } } →
    (gone = true → exec (.dumpWriteResponse (.sinceReset n) resp) s = .next t)
    ∧ (gone = false → ∀ d, s.port.dump = some d →
      (2 ≤ d.awaiting → exec (.dumpWriteResponse (.sinceReset n) resp) s = .next { t with port := { s.port with dump := some { d with
          awaiting := d.awaiting - 1
          error := d.error || decide (resp = .error) } } })
      ∧ (d.awaiting = 1 → d.error = true ∨ resp = .error →
        exec (.dumpWriteResponse (.sinceReset n) resp) s = .next { t with
          port := { s.port with dump := none }
          notices := s.notices.take s.time .dumpFault d.stream.val d.written })
      ∧ (d.awaiting = 1 → d.error = false → resp = .okay → d.last ≤ d.stream.val →
        exec (.dumpWriteResponse (.sinceReset n) resp) s = .next { t with
          port := { s.port with dump := none }
          notices := s.notices.take s.time .dumpDone 0 (d.written + 1) })
      ∧ (d.awaiting = 1 → d.error = false → resp = .okay → ∀ i : Fin 16, i.val = d.stream.val + 1 → i.val ≤ d.last →
        ∃ (u : State) (d' : Dump), exec (.dumpWriteResponse (.sinceReset n) resp) s = .next u ∧ u.port.dump = some d'
          ∧ d'.stream = i ∧ d'.written = d.written + 1 ∧ d'.first = d.first ∧ d'.last = d.last ∧ d'.dest = d.dest
          ∧ d'.error = false ∧ u.notices = s.notices ∧ u.streams = s.streams
          ∧ ((∃ x, s.evals.current = some x ∧ x.frame.stream = i) → d'.snapshot = none
              ∧ u.transit.downWaiting = s.transit.downWaiting)
          ∧ ((∀ x, s.evals.current = some x → x.frame.stream ≠ i) → ∃ a b record, DumpRecordOf i (s.stream i) record
              ∧ d'.snapshot = some record ∧ d'.awaiting = 2 ∧ u.transit.downWaiting = s.transit.downWaiting ++ [a, b]
              ∧ WritesRecord (d.dest + 400 * (i.val - d.first)) record a b)))

/-- R180: the readouts change nothing but the buffer. READ PART answers its six bytes; the other four answer the fields of
R41, R58, R74, R95, R117, R146 and R160, each in its place, every number low byte first, FF or a presence byte of 0 for what
is absent, a list after its count; a stream above 15, a part above 3 or a screen above 1 is refused BAD_PARAM. (The widths
of merged counts and fixed lists are the model's, log entry 11; so is the geometry in IDLE, log entry 29.) -/
def Obligations.ReadoutsChangeNothing : Prop :=
  ([Role.none, .door, .endA, .endB, .spare].map Role.code = [0, 1, 2, 3, 4]
    ∧ [Freshness.noSignal, .live, .stale].map Freshness.code = [0, 1, 2]
    ∧ [Life.free, .filling, .current, .retired].map Life.code = [0, 1, 2, 3]
    ∧ [Collection.idle, .collecting, .dropped].map Collection.code = [0, 1, 2]
    ∧ [LensState.learning, .clean, .suspect, .soiled].map LensState.code = [0, 1, 2, 3]
    ∧ [ViewKind.requested, .door, .reverse].map ViewKind.code = [0, 1, 2]
    ∧ [Overlay.none, .noSignal, .stale, .badgeSuspect, .badgeSoiled].map Overlay.code = [0, 1, 2, 3, 4]
    ∧ [Cause.obstruction, .command].map Cause.code = [0, 1])
    ∧ (∀ s : State, s.hears →
    exec (.readPart (frameOf [])) s = .next (s.responds 2 .done [0x16, 0x7A, 1,
      match s.transit.mode with
        | .pass => 0
        | .draining => 1
        | .active => 2,
      match s.transit.change with
        | .none => 0
        | .enterActive => 1
        | .returnToPass => 2
        | .softReset => 3,
      if s.pool.isSet = true then 1 else 0])
    ∧ exec (.readHolds (frameOf [])) s = .next (s.responds 2 .done s.holdStatus)
    ∧ exec (.readLines (frameOf [])) s = .next (s.responds 2 .done s.lineStatus)
    ∧ (∀ (screen : Byte) (c : Fin 2), screen.toNat = c.val →
        exec (.readScreenStatus (frameOf [screen])) s = .next (s.responds 3 .done (s.screenStatus c)))
    ∧ (∀ (stream : Byte) (i : Fin 16), stream.toNat = i.val →
        exec (.readStreamStatus (frameOf [stream, 0])) s = .next (s.responds 4 .done (s.capturePart i))
        ∧ exec (.readStreamStatus (frameOf [stream, 1])) s = .next (s.responds 4 .done (s.slotPart i))
        ∧ exec (.readStreamStatus (frameOf [stream, 2])) s = .next (s.responds 4 .done (s.statisticsPart i))
        ∧ exec (.readStreamStatus (frameOf [stream, 3])) s = .next (s.responds 4 .done (s.evaluationPart i)))
    ∧ (∀ stream part : Byte, 15 < stream.toNat ∨ 3 < part.toNat →
        exec (.readStreamStatus (frameOf [stream, part])) s = .next (s.responds 4 .badParam []))
    ∧ ∀ screen : Byte, 1 < screen.toNat →
        exec (.readScreenStatus (frameOf [screen])) s = .next (s.responds 3 .badParam []))
    ∧ (∀ (s : State) (i : Fin 16),
      s.capturePart i = leBytes 1 (s.stream i).cfg.role.code ++ leBytes 1 (s.stream i).cfg.door
        ++ [flagByte (s.stream i).cfg.enabled]
        ++ (match (s.stream i).cap.fill with
          | none => [0, 0xFF, 0, 0, 0, 0, 0, 0, 0, 0]
          | some f => 1 :: leBytes 1 f.slot ++ leBytes 4 f.offset
            ++ [flagByte f.disordered, flagByte f.partFrame, flagByte f.damaged, flagByte f.endMark])
        ++ leBytes 1 (s.stream i).cap.awaiting ++ leBytes 1 (s.stream i).cap.heldWrites.length
        ++ leBytes 1 (s.stream i).cap.freshness.code
        ++ leBytes 4 (match (s.stream i).cap.freshness, (s.stream i).cap.timer with
          | .live, some e => (e - s.time).toNat
          | _, _ => 0)
        ++ (match (s.stream i).cap.lastSeq with
          | none => [0, 0, 0]
          | some q => 1 :: leBytes 2 q.toNat)
        ++ leBytes 2 (s.stream i).cap.missed ++ leBytes 2 (s.stream i).cap.orphans ++ leBytes 2 (s.stream i).cap.lost
        ++ (match s.pool.currentOf i with
          | none => 0xFF :: List.replicate 11 0
          | some n => leBytes 1 n ++ leBytes 2 (s.pool.record n).sequence.toNat ++ leBytes 4 (s.pool.record n).stamp.toNat
            ++ leBytes 4 (s.pool.record n).signature.toNat ++ [flagByte (s.pool.record n).sigValid])
      ∧ s.slotPart i = leBytes 1 (s.stream i).cfg.slotList.length
        ++ (s.stream i).cfg.slotList.flatMap (slotEntry s.pool i) ++ leBytes 1 s.pool.free.length
        ++ leBytes 1 (s.pool.unheldCount (s.stream i).cfg.slotList)
      ∧ (∀ n x free content, s.pool.slots[n]? = some x → PlaceBytes s.pool.free n free →
        PlaceBytes s.pool.content[i] n content →
        slotEntry s.pool i n = leBytes 1 n ++ leBytes 1 x.life.code ++ [flagByte x.valid] ++ leBytes 2 x.sequence.toNat
          ++ leBytes 4 x.frameSize ++ leBytes 4 x.stamp.toNat ++ leBytes 4 x.signature.toNat
          ++ [flagByte x.sigValid, flagByte x.partFrame] ++ leBytes 1 x.pins
          ++ (match x.hold with
            | none => [0, 0xFF]
            | some g => 1 :: leBytes 1 g)
          ++ free ++ content)
      ∧ s.statisticsPart i = leBytes 1 (s.stream i).acc.state.code ++ leBytes 2 (s.stream i).acc.w
        ++ leBytes 2 (s.stream i).acc.h ++ leBytes 2 (s.stream i).acc.tw ++ leBytes 2 (s.stream i).acc.th
        ++ leBytes 4 ((s.stream i).acc.tiles.toList.map TileSums.pix).sum ++ leBytes 4 (s.stream i).acc.incomplete
        ++ leBytes 2 (s.stream i).acc.skipped
        ++ (match (s.stream i).acc.lastOffered with
          | none => [0, 0, 0]
          | some q => 1 :: leBytes 2 q.toNat)
        ++ leBytes 4 (s.stream i).acc.lastComplete ++ leBytes 4 (s.stream i).acc.lastIncomplete
        ++ leBytes 1 (s.evals.queue.filter (fun r => decide (r.stream = i))).length
        ++ ((List.range s.evals.queue.length).filter
            (fun k => decide ((s.evals.queue[k]?).map FrameRecord.stream = some i))).map (BitVec.ofNat 8)
      ∧ s.evaluationPart i = leBytes 1 (s.stream i).lens.state.code ++ leBytes 2 (s.stream i).lens.fraction
        ++ leBytes 1 (s.stream i).lens.counted ++ leBytes 1 (s.stream i).lens.blurred
        ++ leBytes 4 (s.stream i).lens.evaluations ++ leBytes 2 (s.stream i).lens.inconclusive
        ++ leBytes 2 (s.stream i).lens.dark ++ leBytes 2 (s.stream i).lens.glare
        ++ (match (s.stream i).lens.lastSeq with
          | none => [0, 0, 0]
          | some q => 1 :: leBytes 2 q.toNat)
        ++ (match s.evals.current with
          | none => [0, 0, 0, 0]
          | some x => if x.frame.stream = i then 1 :: leBytes 2 x.frame.sequence.toNat ++ [flagByte x.discard]
              else [0, 0, 0, 0])
        ++ [fun t => (s.stream i).cfg.excludes t,
            fun t => !(s.stream i).cfg.excludes t && decide ((s.stream i).tiles[t].state = .learning),
            fun t => !(s.stream i).cfg.excludes t && decide ((s.stream i).tiles[t].state = .sharp),
            fun t => !(s.stream i).cfg.excludes t && decide ((s.stream i).tiles[t].state = .blurred)].map
          (fun (p : Fin 48 → Bool) => BitVec.ofNat 8 ((List.finRange 48).filter p).length))
    ∧ (∀ (s : State) (c : Fin 2),
      s.screenStatus c = [flagByte (s.screen c).isSet] ++ leBytes 5 (s.screen c).base ++ leBytes 2 (s.screen c).w
        ++ leBytes 2 (s.screen c).h ++ leBytes 2 (s.screen c).timeout ++ leBytes 1 (s.screen c).requested.val
        ++ leBytes 1 (s.screen c).prevKind.code
        ++ (match (s.screen c).frame with
          | none => 0xFF :: List.replicate 15 0
          | some f => [flagByte f.expired] ++ leBytes 1 f.kind.code
            ++ (match f.layout with
              | none => [0xFF]
              | some m => leBytes 1 m.val)
            ++ leBytes 4 f.latched.toNat ++ [flagByte f.endSeen] ++ leBytes 1 f.inFlight ++ leBytes 2 f.accepted
            ++ leBytes 4 (match f.timer with
              | none => 0
              | some e => (e - s.time).toNat)
            ++ leBytes 1 f.panes.length
            ++ f.panes.flatMap (fun v => leBytes 1 v.pane.stream.val ++ leBytes 2 v.pane.sx ++ leBytes 2 v.pane.sy
              ++ leBytes 2 v.pane.sw ++ leBytes 2 v.pane.sh ++ leBytes 1 v.pane.k ++ leBytes 2 v.pane.dx
              ++ leBytes 2 v.pane.dy ++ [flagByte v.pane.mirror, flagByte v.pane.badge]
              ++ (match v.slot with
                | none => [0xFF]
                | some n => leBytes 1 n)
              ++ leBytes 1 v.overlay.code))
        ++ (match (s.screen c).kept with
          | none => [0, 0]
          | some v => 1 :: leBytes 1 v.kind.code)
        ++ leBytes 1 (s.screen c).unlatched ++ leBytes 4 (s.screen c).latches ++ leBytes 2 (s.screen c).restarts
        ++ leBytes 2 (s.screen c).timeouts ++ leBytes 4 (s.screen c).unlatchedReads ++ leBytes 2 (s.screen c).faults)
    ∧ ∀ s : State,
      s.holdStatus = leBytes 1 s.holds.total ++ leBytes 1 s.holds.pre ++ leBytes 1 s.holds.post
        ++ (match s.holds.mapping with
          | none => [0xFF, 0, 0xFF, 0]
          | some m => leBytes 1 m.group ++ leBytes 1 m.index ++ leBytes 1 m.slot ++ [flagByte m.autoRelease])
        ++ leBytes 1 s.holds.groups.length
        ++ s.holds.groups.flatMap (fun g => leBytes 1 g.id ++ leBytes 1 g.cause.code ++ leBytes 1 g.stream.val
          ++ leBytes 4 g.stamp.toNat ++ leBytes 1 g.post ++ leBytes 1 g.slots.length
          ++ g.slots.flatMap (fun n => leBytes 1 n ++ leBytes 2 (s.pool.record n).sequence.toNat
            ++ leBytes 4 (s.pool.record n).stamp.toNat ++ leBytes 4 (s.pool.record n).signature.toNat
            ++ [flagByte (s.pool.record n).sigValid, flagByte (s.pool.record n).partFrame]))
      ∧ s.lineStatus = (List.finRange 15).flatMap (fun l =>
          [flagByte s.lines.lines[l].sampled, flagByte s.lines.lines[l].debounced] ++ leBytes 1 s.lines.lines[l].run)
        ++ [flagByte s.lines.lines[(12 : Fin 15)].debounced]
        ++ [(0 : Fin 2), 1].flatMap (fun x => [flagByte (s.lines.sideOpen x), flagByte s.lines.sides[x].timer.isSome]
          ++ leBytes 4 (match s.lines.sides[x].timer with
            | none => 0
            | some e => (e - s.time).toNat)
          ++ leBytes 1 s.lines.sides[x].kept.length ++ s.lines.sides[x].kept.map (BitVec.ofNat 8))
        ++ [(0 : Fin 2), 1].flatMap (fun c => [flagByte (s.lines.doorViewActive c),
          flagByte (decide (s.lines.reversePlacement = some c))])
        ++ [flagByte s.lines.reverseActive, flagByte s.lines.hidden]
        ++ (match s.trailingStream with
          | none => [0xFF]
          | some i => leBytes 1 i.val)
        ++ [flagByte s.lines.doorEnable] ++ leBytes 2 s.lines.linger ++ [flagByte s.lines.reverseEnable]
        ++ leBytes 1 s.lines.preferred.val ++ leBytes 2 s.lines.obstructions

/-! ### Reset -/

/-- R16, R184: at the assertion of RESET_N every transaction, frame in progress, timer, evaluation and dump is gone and the
notice queue is empty; until the release requests, frames and milliseconds are no events. The release leaves every block
at its values after pin reset. A downstream answer of any kind for a transaction issued before a reset is discarded in every
state, also when a request of its kind and id has been issued since (the answer says which it belongs to, log entry 31).
(Which values stand between the two edges is the model's choice, log entries 9 and 10; that RESET_N_RELEASED while RESET_N
is high leaves the state as it is, is the model's, log entry 3.) -/
def Obligations.PinResetClearsThePart : Prop :=
  ∀ s : State,
    (∃ t, exec .resetNAsserted s = .next t ∧ t.inReset = true ∧ t.transit.reads = [] ∧ t.transit.writes = []
      ∧ t.transit.waiting = [] ∧ t.transit.downWaiting = [] ∧ t.transit.downIssued = []
      ∧ (∀ i, (t.stream i).cap.fill = none ∧ (t.stream i).cap.timer = none ∧ (t.stream i).cap.awaiting = 0)
      ∧ (∀ c, (t.screen c).frame = none) ∧ t.evals.current = none ∧ t.evals.queue = [] ∧ t.port.dump = none
      ∧ t.notices.records = [] ∧ t.notices.timer = none ∧ t.notices.asserted = false
      ∧ (∀ x : Fin 2, t.lines.sides[x].timer = none))
    ∧ (s.inReset = true →
      exec .resetNReleased s = .next { State.reset with pending := s.pending }
      ∧ (∀ q : ReadReq, q.wf = true → exec (.upstreamReadAccepted q) s = .next s)
      ∧ (∀ q : WriteReq, q.wf = true → exec (.upstreamWriteAccepted q) s = .next s)
      ∧ (∀ levels order, exec (.partTimeStep levels order) s = .next s)
      ∧ ∀ n, 1 ≤ n → exec (.response n) s = .next s)
    ∧ (s.inReset = false → exec .resetNReleased s = .next s)
    ∧ ∀ (id : TxnId) (n : Nat) (beat : ReadBeat) (resp : Resp),
      exec (.forwardedReadBeat (.beforeReset id) beat) s = .next s
      ∧ exec (.forwardedWriteResponse (.beforeReset id) resp) s = .next s
      ∧ exec (.steeredWriteResponse (.beforeReset id) resp) s = .next s
      ∧ exec (.captureReadBeat (.beforeReset id) beat) s = .next s
      ∧ exec (.reviewReadBeat (.beforeReset id) beat) s = .next s
      ∧ exec (.gatherReadBeat (.beforeReset n) beat) s = .next s
      ∧ exec (.dumpWriteResponse (.beforeReset n) resp) s = .next s

/-! ### What every step keeps -/

/-- At most 32 reads and 32 writes are in flight (R2); the map is empty in PASS and in a drain entered from PASS (R5). -/
def Obligations.StepsKeepTheLimitsAndTheMap : Prop :=
  KeptByEveryStep State.InFlightBounded
    ∧ KeptByEveryStep State.MapEmptyInPass

/-- A change is pending, and its command executing, exactly in DRAINING, which stands only while something is in flight
(R13, R15, R173). -/
def Obligations.StepsKeepDrainConsistent : Prop := KeptByEveryStep State.DrainConsistent

/-- The free list holds exactly the slots that are FREE, unheld and unpinned, each once (R47). -/
def Obligations.StepsKeepFreeListExact : Prop := KeptByEveryStep State.FreeListExact

/-- A freshness timer runs exactly while its stream is LIVE (R39, R20, R42); the evaluation queue holds at most 4 records,
and none while the engine is IDLE (R71, R79). -/
def Obligations.StepsKeepFreshnessAndTheQueue : Prop :=
  KeptByEveryStep State.FreshnessTimed
    ∧ KeptByEveryStep State.EvaluationQueued

/-- For every tile and at every moment B and E stay within 0–65280 and Q within 0–1023 (R67, R82); the lens of a stream is
LEARNING whenever fewer than 8 of its non-excluded tiles have completed learning (R91). -/
def Obligations.StepsKeepTheBaselineLaws : Prop :=
  KeptByEveryStep State.EnergiesBounded
    ∧ KeptByEveryStep State.LensNeedsEightTiles

/-- The hidden flag is set exactly while the reverse view is hidden (R140, R141). At most 8 slots are held, and every group
has its own id of 1–8 (R148, R149). -/
def Obligations.StepsKeepTheHiddenFlagAndTheHolds : Prop :=
  KeptByEveryStep State.HiddenFlagExact
    ∧ KeptByEveryStep State.HoldsBounded

/-- The laws of the notice queue: at most 32 records, and no two adjacent records that should be one (R163 to R165); NTF_N
follows its conditions at every event (R167). -/
def Obligations.StepsKeepTheNoticeLaws : Prop :=
  KeptByEveryStep State.NoticesCoalesced
    ∧ KeptByEveryStep State.NtfFollows

/-- The law of R184: every timer expires at its stated value of part time. A running timer stands at a value still to come or
at the present one, never behind it, and no further ahead than its limit: 2,000 ms for freshness, 1,000 for a screen frame
and the notice linger, 30,000 for a side (R17, R97, R134, R168). -/
def Obligations.StepsKeepTheTimersAhead : Prop := KeptByEveryStep State.TimersAhead

/-- The part after reset has each of these properties. -/
def Obligations.ResetHasEveryKeptProperty : Prop :=
  State.reset.InFlightBounded ∧ State.reset.DrainConsistent ∧ State.reset.MapEmptyInPass ∧ State.reset.FreeListExact
    ∧ State.reset.FreshnessTimed ∧ State.reset.EvaluationQueued ∧ State.reset.EnergiesBounded
    ∧ State.reset.LensNeedsEightTiles ∧ State.reset.HiddenFlagExact ∧ State.reset.HoldsBounded
    ∧ State.reset.NoticesCoalesced ∧ State.reset.NtfFollows ∧ State.reset.TimersAhead
end

