-- ==== Sys2Proof/Laws/Tables.lean ====
section
/-! SUPPORT. What the table operations and the byte fields of Machine/Ops.lean can do, said once. -/

namespace Sys2Proof.Machine

/-! ### Tables of fixed length -/

theorem modAt_get_self {α : Type} {n : Nat} (v : Vector α n) (i : Fin n) (f : α → α) : (modAt v i f)[i] = f v[i] := by
  simp [modAt]

theorem modAt_get_other {α : Type} {n : Nat} (v : Vector α n) (i j : Fin n) (f : α → α) (h : i ≠ j) :
    (modAt v i f)[j] = v[j] := by
  have h' : i.val ≠ j.val := fun e => h (Fin.ext e)
  simp [modAt, Vector.getElem_set_ne _ _ h']

/-- Changing one entry changes that entry and no other. -/
theorem modAt_get {α : Type} {n : Nat} (v : Vector α n) (i j : Fin n) (f : α → α) :
    (modAt v i f)[j] = if i = j then f v[j] else v[j] := by
  by_cases h : i = j
  · subst h; rw [if_pos rfl]; exact modAt_get_self v i f
  · rw [if_neg h]; exact modAt_get_other v i j f h

/-- Two changes of one entry are one change. -/
theorem modAt_modAt {α : Type} {n : Nat} (v : Vector α n) (i : Fin n) (f g : α → α) :
    modAt (modAt v i f) i g = modAt v i (fun x => g (f x)) := by
  simp [modAt]

/-- Only what a change makes of the entry it changes matters. -/
theorem modAt_congr {α : Type} {n : Nat} (v : Vector α n) (i : Fin n) (f g : α → α) (h : f v[i] = g v[i]) :
    modAt v i f = modAt v i g := by
  unfold modAt; rw [h]

/-- A change that leaves the entry as it was leaves the table. -/
theorem modAt_same {α : Type} {n : Nat} (v : Vector α n) (i : Fin n) (f : α → α) (h : f v[i] = v[i]) :
    modAt v i f = v := by
  unfold modAt; rw [h]; simp

@[simp] theorem mapAll_get {α β : Type} {n : Nat} (f : α → β) (v : Vector α n) (i : Fin n) : (mapAll f v)[i] = f v[i] := by
  simp [mapAll]

@[simp] theorem tabulate_get {β : Type} (n : Nat) (f : Fin n → β) (i : Fin n) : (tabulate n f)[i] = f i := by
  simp [tabulate]

@[simp] theorem replicate_get {α : Type} (n : Nat) (a : α) (i : Fin n) : (Vector.replicate n a)[i] = a := by simp

theorem index?_eq_some {n k : Nat} {i : Fin n} : index? n k = some i ↔ k = i.val := by
  unfold index?
  constructor
  · intro h
    split at h
    · simpa using congrArg (fun o => o.map Fin.val) h
    · cases h
  · rintro rfl; simp

theorem index?_eq_none {n k : Nat} : index? n k = none ↔ n ≤ k := by unfold index?; split <;> simp <;> omega

@[simp] theorem index?_val {n : Nat} (i : Fin n) : index? n i.val = some i := index?_eq_some.mpr rfl

/-! ### Counts -/

theorem satAdd_le (top n k : Nat) : satAdd top n k ≤ top := Nat.min_le_left _ _

theorem clamp_le {lo hi n : Nat} : clamp lo hi n ≤ hi := Nat.min_le_left _ _

theorem le_clamp {lo hi n : Nat} (h : lo ≤ hi) : lo ≤ clamp lo hi n := by unfold clamp; omega

theorem clamp_of_mem {lo hi n : Nat} (h : lo ≤ n) (h' : n ≤ hi) : clamp lo hi n = n := by unfold clamp; omega

/-! ### Byte fields -/

@[simp] theorem leBytes_length (n v : Nat) : (leBytes n v).length = n := by
  induction n generalizing v with
  | zero => rfl
  | succ n ih => simp [leBytes, ih]

/-- The n bytes of a value below 256^n have that value. -/
theorem leValue_leBytes (n v : Nat) (h : v < 256 ^ n) : leValue (leBytes n v) = v := by
  induction n generalizing v with
  | zero => simp [leBytes, leValue]; omega
  | succ n ih =>
    have h' : v / 256 < 256 ^ n := by
      rw [Nat.pow_succ] at h
      exact Nat.div_lt_of_lt_mul (by omega)
    simp only [leBytes, leValue, ih _ h', BitVec.toNat_ofNat]
    omega

/-- The field that follows `pre` in a frame is the value whose bytes stand there. -/
theorem field_append (pre post : List Byte) (off n v : Nat) (h : pre.length = off) (hv : v < 256 ^ n) :
    field (pre ++ (leBytes n v ++ post)) off n = v := by
  subst h
  simp [field, leValue_leBytes n v hv]

/-- The last field of a frame. -/
theorem field_append_last (pre : List Byte) (off n v : Nat) (h : pre.length = off) (hv : v < 256 ^ n) :
    field (pre ++ leBytes n v) off n = v := by
  simpa using field_append pre [] off n v h hv

end Sys2Proof.Machine
end

