-- ==== Sys2Proof/Laws/State.lean ====
section
/-! SUPPORT. What each named update of State leaves in each field, so that no proof unfolds a record update. -/

namespace Sys2Proof.Machine

variable (s : State)

/-! ### modTransit -/

@[simp] theorem State.modTransit_transit (f : Transit → Transit) : (s.modTransit f).transit = f s.transit := rfl
@[simp] theorem State.modTransit_streams (f : Transit → Transit) : (s.modTransit f).streams = s.streams := rfl
@[simp] theorem State.modTransit_pool (f : Transit → Transit) : (s.modTransit f).pool = s.pool := rfl
@[simp] theorem State.modTransit_evals (f : Transit → Transit) : (s.modTransit f).evals = s.evals := rfl
@[simp] theorem State.modTransit_comp (f : Transit → Transit) : (s.modTransit f).comp = s.comp := rfl
@[simp] theorem State.modTransit_lines (f : Transit → Transit) : (s.modTransit f).lines = s.lines := rfl
@[simp] theorem State.modTransit_holds (f : Transit → Transit) : (s.modTransit f).holds = s.holds := rfl
@[simp] theorem State.modTransit_notices (f : Transit → Transit) : (s.modTransit f).notices = s.notices := rfl
@[simp] theorem State.modTransit_port (f : Transit → Transit) : (s.modTransit f).port = s.port := rfl
@[simp] theorem State.modTransit_time (f : Transit → Transit) : (s.modTransit f).time = s.time := rfl
@[simp] theorem State.modTransit_inReset (f : Transit → Transit) : (s.modTransit f).inReset = s.inReset := rfl
@[simp] theorem State.modTransit_pending (f : Transit → Transit) : (s.modTransit f).pending = s.pending := rfl

/-! ### modStream -/

@[simp] theorem State.modStream_transit (i : Fin 16) (f : Stream → Stream) :
    (s.modStream i f).transit = s.transit := rfl
@[simp] theorem State.modStream_streams (i : Fin 16) (f : Stream → Stream) :
    (s.modStream i f).streams = modAt s.streams i f := rfl
@[simp] theorem State.modStream_pool (i : Fin 16) (f : Stream → Stream) : (s.modStream i f).pool = s.pool := rfl
@[simp] theorem State.modStream_evals (i : Fin 16) (f : Stream → Stream) : (s.modStream i f).evals = s.evals := rfl
@[simp] theorem State.modStream_comp (i : Fin 16) (f : Stream → Stream) : (s.modStream i f).comp = s.comp := rfl
@[simp] theorem State.modStream_lines (i : Fin 16) (f : Stream → Stream) : (s.modStream i f).lines = s.lines := rfl
@[simp] theorem State.modStream_holds (i : Fin 16) (f : Stream → Stream) : (s.modStream i f).holds = s.holds := rfl
@[simp] theorem State.modStream_notices (i : Fin 16) (f : Stream → Stream) :
    (s.modStream i f).notices = s.notices := rfl
@[simp] theorem State.modStream_port (i : Fin 16) (f : Stream → Stream) : (s.modStream i f).port = s.port := rfl
@[simp] theorem State.modStream_time (i : Fin 16) (f : Stream → Stream) : (s.modStream i f).time = s.time := rfl
@[simp] theorem State.modStream_inReset (i : Fin 16) (f : Stream → Stream) :
    (s.modStream i f).inReset = s.inReset := rfl
@[simp] theorem State.modStream_pending (i : Fin 16) (f : Stream → Stream) :
    (s.modStream i f).pending = s.pending := rfl

/-! ### modPool -/

@[simp] theorem State.modPool_transit (f : SlotPool → SlotPool) : (s.modPool f).transit = s.transit := rfl
@[simp] theorem State.modPool_streams (f : SlotPool → SlotPool) : (s.modPool f).streams = s.streams := rfl
@[simp] theorem State.modPool_pool (f : SlotPool → SlotPool) : (s.modPool f).pool = f s.pool := rfl
@[simp] theorem State.modPool_evals (f : SlotPool → SlotPool) : (s.modPool f).evals = s.evals := rfl
@[simp] theorem State.modPool_comp (f : SlotPool → SlotPool) : (s.modPool f).comp = s.comp := rfl
@[simp] theorem State.modPool_lines (f : SlotPool → SlotPool) : (s.modPool f).lines = s.lines := rfl
@[simp] theorem State.modPool_holds (f : SlotPool → SlotPool) : (s.modPool f).holds = s.holds := rfl
@[simp] theorem State.modPool_notices (f : SlotPool → SlotPool) : (s.modPool f).notices = s.notices := rfl
@[simp] theorem State.modPool_port (f : SlotPool → SlotPool) : (s.modPool f).port = s.port := rfl
@[simp] theorem State.modPool_time (f : SlotPool → SlotPool) : (s.modPool f).time = s.time := rfl
@[simp] theorem State.modPool_inReset (f : SlotPool → SlotPool) : (s.modPool f).inReset = s.inReset := rfl
@[simp] theorem State.modPool_pending (f : SlotPool → SlotPool) : (s.modPool f).pending = s.pending := rfl

/-! ### modEvals -/

@[simp] theorem State.modEvals_transit (f : Evaluator → Evaluator) : (s.modEvals f).transit = s.transit := rfl
@[simp] theorem State.modEvals_streams (f : Evaluator → Evaluator) : (s.modEvals f).streams = s.streams := rfl
@[simp] theorem State.modEvals_pool (f : Evaluator → Evaluator) : (s.modEvals f).pool = s.pool := rfl
@[simp] theorem State.modEvals_evals (f : Evaluator → Evaluator) : (s.modEvals f).evals = f s.evals := rfl
@[simp] theorem State.modEvals_comp (f : Evaluator → Evaluator) : (s.modEvals f).comp = s.comp := rfl
@[simp] theorem State.modEvals_lines (f : Evaluator → Evaluator) : (s.modEvals f).lines = s.lines := rfl
@[simp] theorem State.modEvals_holds (f : Evaluator → Evaluator) : (s.modEvals f).holds = s.holds := rfl
@[simp] theorem State.modEvals_notices (f : Evaluator → Evaluator) : (s.modEvals f).notices = s.notices := rfl
@[simp] theorem State.modEvals_port (f : Evaluator → Evaluator) : (s.modEvals f).port = s.port := rfl
@[simp] theorem State.modEvals_time (f : Evaluator → Evaluator) : (s.modEvals f).time = s.time := rfl
@[simp] theorem State.modEvals_inReset (f : Evaluator → Evaluator) : (s.modEvals f).inReset = s.inReset := rfl
@[simp] theorem State.modEvals_pending (f : Evaluator → Evaluator) : (s.modEvals f).pending = s.pending := rfl

/-! ### modScreen -/

@[simp] theorem State.modScreen_transit (c : Fin 2) (f : Screen → Screen) : (s.modScreen c f).transit = s.transit := rfl
@[simp] theorem State.modScreen_streams (c : Fin 2) (f : Screen → Screen) : (s.modScreen c f).streams = s.streams := rfl
@[simp] theorem State.modScreen_pool (c : Fin 2) (f : Screen → Screen) : (s.modScreen c f).pool = s.pool := rfl
@[simp] theorem State.modScreen_evals (c : Fin 2) (f : Screen → Screen) : (s.modScreen c f).evals = s.evals := rfl
@[simp] theorem State.modScreen_comp (c : Fin 2) (f : Screen → Screen) :
    (s.modScreen c f).comp = { s.comp with screens := modAt s.comp.screens c f } := rfl
@[simp] theorem State.modScreen_lines (c : Fin 2) (f : Screen → Screen) : (s.modScreen c f).lines = s.lines := rfl
@[simp] theorem State.modScreen_holds (c : Fin 2) (f : Screen → Screen) : (s.modScreen c f).holds = s.holds := rfl
@[simp] theorem State.modScreen_notices (c : Fin 2) (f : Screen → Screen) : (s.modScreen c f).notices = s.notices := rfl
@[simp] theorem State.modScreen_port (c : Fin 2) (f : Screen → Screen) : (s.modScreen c f).port = s.port := rfl
@[simp] theorem State.modScreen_time (c : Fin 2) (f : Screen → Screen) : (s.modScreen c f).time = s.time := rfl
@[simp] theorem State.modScreen_inReset (c : Fin 2) (f : Screen → Screen) : (s.modScreen c f).inReset = s.inReset := rfl
@[simp] theorem State.modScreen_pending (c : Fin 2) (f : Screen → Screen) : (s.modScreen c f).pending = s.pending := rfl

/-! ### modLines -/

@[simp] theorem State.modLines_transit (f : LineMonitor → LineMonitor) : (s.modLines f).transit = s.transit := rfl
@[simp] theorem State.modLines_streams (f : LineMonitor → LineMonitor) : (s.modLines f).streams = s.streams := rfl
@[simp] theorem State.modLines_pool (f : LineMonitor → LineMonitor) : (s.modLines f).pool = s.pool := rfl
@[simp] theorem State.modLines_evals (f : LineMonitor → LineMonitor) : (s.modLines f).evals = s.evals := rfl
@[simp] theorem State.modLines_comp (f : LineMonitor → LineMonitor) : (s.modLines f).comp = s.comp := rfl
@[simp] theorem State.modLines_lines (f : LineMonitor → LineMonitor) : (s.modLines f).lines = f s.lines := rfl
@[simp] theorem State.modLines_holds (f : LineMonitor → LineMonitor) : (s.modLines f).holds = s.holds := rfl
@[simp] theorem State.modLines_notices (f : LineMonitor → LineMonitor) : (s.modLines f).notices = s.notices := rfl
@[simp] theorem State.modLines_port (f : LineMonitor → LineMonitor) : (s.modLines f).port = s.port := rfl
@[simp] theorem State.modLines_time (f : LineMonitor → LineMonitor) : (s.modLines f).time = s.time := rfl
@[simp] theorem State.modLines_inReset (f : LineMonitor → LineMonitor) : (s.modLines f).inReset = s.inReset := rfl
@[simp] theorem State.modLines_pending (f : LineMonitor → LineMonitor) : (s.modLines f).pending = s.pending := rfl

/-! ### modHolds -/

@[simp] theorem State.modHolds_transit (f : HoldTable → HoldTable) : (s.modHolds f).transit = s.transit := rfl
@[simp] theorem State.modHolds_streams (f : HoldTable → HoldTable) : (s.modHolds f).streams = s.streams := rfl
@[simp] theorem State.modHolds_pool (f : HoldTable → HoldTable) : (s.modHolds f).pool = s.pool := rfl
@[simp] theorem State.modHolds_evals (f : HoldTable → HoldTable) : (s.modHolds f).evals = s.evals := rfl
@[simp] theorem State.modHolds_comp (f : HoldTable → HoldTable) : (s.modHolds f).comp = s.comp := rfl
@[simp] theorem State.modHolds_lines (f : HoldTable → HoldTable) : (s.modHolds f).lines = s.lines := rfl
@[simp] theorem State.modHolds_holds (f : HoldTable → HoldTable) : (s.modHolds f).holds = f s.holds := rfl
@[simp] theorem State.modHolds_notices (f : HoldTable → HoldTable) : (s.modHolds f).notices = s.notices := rfl
@[simp] theorem State.modHolds_port (f : HoldTable → HoldTable) : (s.modHolds f).port = s.port := rfl
@[simp] theorem State.modHolds_time (f : HoldTable → HoldTable) : (s.modHolds f).time = s.time := rfl
@[simp] theorem State.modHolds_inReset (f : HoldTable → HoldTable) : (s.modHolds f).inReset = s.inReset := rfl
@[simp] theorem State.modHolds_pending (f : HoldTable → HoldTable) : (s.modHolds f).pending = s.pending := rfl

/-! ### modNotices -/

@[simp] theorem State.modNotices_transit (f : NoticeQueue → NoticeQueue) : (s.modNotices f).transit = s.transit := rfl
@[simp] theorem State.modNotices_streams (f : NoticeQueue → NoticeQueue) : (s.modNotices f).streams = s.streams := rfl
@[simp] theorem State.modNotices_pool (f : NoticeQueue → NoticeQueue) : (s.modNotices f).pool = s.pool := rfl
@[simp] theorem State.modNotices_evals (f : NoticeQueue → NoticeQueue) : (s.modNotices f).evals = s.evals := rfl
@[simp] theorem State.modNotices_comp (f : NoticeQueue → NoticeQueue) : (s.modNotices f).comp = s.comp := rfl
@[simp] theorem State.modNotices_lines (f : NoticeQueue → NoticeQueue) : (s.modNotices f).lines = s.lines := rfl
@[simp] theorem State.modNotices_holds (f : NoticeQueue → NoticeQueue) : (s.modNotices f).holds = s.holds := rfl
@[simp] theorem State.modNotices_notices (f : NoticeQueue → NoticeQueue) : (s.modNotices f).notices = f s.notices := rfl
@[simp] theorem State.modNotices_port (f : NoticeQueue → NoticeQueue) : (s.modNotices f).port = s.port := rfl
@[simp] theorem State.modNotices_time (f : NoticeQueue → NoticeQueue) : (s.modNotices f).time = s.time := rfl
@[simp] theorem State.modNotices_inReset (f : NoticeQueue → NoticeQueue) : (s.modNotices f).inReset = s.inReset := rfl
@[simp] theorem State.modNotices_pending (f : NoticeQueue → NoticeQueue) : (s.modNotices f).pending = s.pending := rfl

/-! ### modPort -/

@[simp] theorem State.modPort_transit (f : ControlPort → ControlPort) : (s.modPort f).transit = s.transit := rfl
@[simp] theorem State.modPort_streams (f : ControlPort → ControlPort) : (s.modPort f).streams = s.streams := rfl
@[simp] theorem State.modPort_pool (f : ControlPort → ControlPort) : (s.modPort f).pool = s.pool := rfl
@[simp] theorem State.modPort_evals (f : ControlPort → ControlPort) : (s.modPort f).evals = s.evals := rfl
@[simp] theorem State.modPort_comp (f : ControlPort → ControlPort) : (s.modPort f).comp = s.comp := rfl
@[simp] theorem State.modPort_lines (f : ControlPort → ControlPort) : (s.modPort f).lines = s.lines := rfl
@[simp] theorem State.modPort_holds (f : ControlPort → ControlPort) : (s.modPort f).holds = s.holds := rfl
@[simp] theorem State.modPort_notices (f : ControlPort → ControlPort) : (s.modPort f).notices = s.notices := rfl
@[simp] theorem State.modPort_port (f : ControlPort → ControlPort) : (s.modPort f).port = f s.port := rfl
@[simp] theorem State.modPort_time (f : ControlPort → ControlPort) : (s.modPort f).time = s.time := rfl
@[simp] theorem State.modPort_inReset (f : ControlPort → ControlPort) : (s.modPort f).inReset = s.inReset := rfl
@[simp] theorem State.modPort_pending (f : ControlPort → ControlPort) : (s.modPort f).pending = s.pending := rfl

/-! ### modCapture -/

@[simp] theorem State.modCapture_transit (i : Fin 16) (f : Capture → Capture) :
    (s.modCapture i f).transit = s.transit := rfl
@[simp] theorem State.modCapture_streams (i : Fin 16) (f : Capture → Capture) :
    (s.modCapture i f).streams = modAt s.streams i (fun st => { st with cap := f st.cap }) := rfl
@[simp] theorem State.modCapture_pool (i : Fin 16) (f : Capture → Capture) : (s.modCapture i f).pool = s.pool := rfl
@[simp] theorem State.modCapture_evals (i : Fin 16) (f : Capture → Capture) : (s.modCapture i f).evals = s.evals := rfl
@[simp] theorem State.modCapture_comp (i : Fin 16) (f : Capture → Capture) : (s.modCapture i f).comp = s.comp := rfl
@[simp] theorem State.modCapture_lines (i : Fin 16) (f : Capture → Capture) : (s.modCapture i f).lines = s.lines := rfl
@[simp] theorem State.modCapture_holds (i : Fin 16) (f : Capture → Capture) : (s.modCapture i f).holds = s.holds := rfl
@[simp] theorem State.modCapture_notices (i : Fin 16) (f : Capture → Capture) :
    (s.modCapture i f).notices = s.notices := rfl
@[simp] theorem State.modCapture_port (i : Fin 16) (f : Capture → Capture) : (s.modCapture i f).port = s.port := rfl
@[simp] theorem State.modCapture_time (i : Fin 16) (f : Capture → Capture) : (s.modCapture i f).time = s.time := rfl
@[simp] theorem State.modCapture_inReset (i : Fin 16) (f : Capture → Capture) :
    (s.modCapture i f).inReset = s.inReset := rfl
@[simp] theorem State.modCapture_pending (i : Fin 16) (f : Capture → Capture) :
    (s.modCapture i f).pending = s.pending := rfl

/-! ### modAcc -/

@[simp] theorem State.modAcc_transit (i : Fin 16) (f : Accumulators → Accumulators) :
    (s.modAcc i f).transit = s.transit := rfl
@[simp] theorem State.modAcc_streams (i : Fin 16) (f : Accumulators → Accumulators) :
    (s.modAcc i f).streams = modAt s.streams i (fun st => { st with acc := f st.acc }) := rfl
@[simp] theorem State.modAcc_pool (i : Fin 16) (f : Accumulators → Accumulators) : (s.modAcc i f).pool = s.pool := rfl
@[simp] theorem State.modAcc_evals (i : Fin 16) (f : Accumulators → Accumulators) :
    (s.modAcc i f).evals = s.evals := rfl
@[simp] theorem State.modAcc_comp (i : Fin 16) (f : Accumulators → Accumulators) : (s.modAcc i f).comp = s.comp := rfl
@[simp] theorem State.modAcc_lines (i : Fin 16) (f : Accumulators → Accumulators) :
    (s.modAcc i f).lines = s.lines := rfl
@[simp] theorem State.modAcc_holds (i : Fin 16) (f : Accumulators → Accumulators) :
    (s.modAcc i f).holds = s.holds := rfl
@[simp] theorem State.modAcc_notices (i : Fin 16) (f : Accumulators → Accumulators) :
    (s.modAcc i f).notices = s.notices := rfl
@[simp] theorem State.modAcc_port (i : Fin 16) (f : Accumulators → Accumulators) : (s.modAcc i f).port = s.port := rfl
@[simp] theorem State.modAcc_time (i : Fin 16) (f : Accumulators → Accumulators) : (s.modAcc i f).time = s.time := rfl
@[simp] theorem State.modAcc_inReset (i : Fin 16) (f : Accumulators → Accumulators) :
    (s.modAcc i f).inReset = s.inReset := rfl
@[simp] theorem State.modAcc_pending (i : Fin 16) (f : Accumulators → Accumulators) :
    (s.modAcc i f).pending = s.pending := rfl

/-! ### modSide -/

@[simp] theorem State.modSide_transit (x : Fin 2) (f : Side → Side) : (s.modSide x f).transit = s.transit := rfl
@[simp] theorem State.modSide_streams (x : Fin 2) (f : Side → Side) : (s.modSide x f).streams = s.streams := rfl
@[simp] theorem State.modSide_pool (x : Fin 2) (f : Side → Side) : (s.modSide x f).pool = s.pool := rfl
@[simp] theorem State.modSide_evals (x : Fin 2) (f : Side → Side) : (s.modSide x f).evals = s.evals := rfl
@[simp] theorem State.modSide_comp (x : Fin 2) (f : Side → Side) : (s.modSide x f).comp = s.comp := rfl
@[simp] theorem State.modSide_lines (x : Fin 2) (f : Side → Side) :
    (s.modSide x f).lines = { s.lines with sides := modAt s.lines.sides x f } := rfl
@[simp] theorem State.modSide_holds (x : Fin 2) (f : Side → Side) : (s.modSide x f).holds = s.holds := rfl
@[simp] theorem State.modSide_notices (x : Fin 2) (f : Side → Side) : (s.modSide x f).notices = s.notices := rfl
@[simp] theorem State.modSide_port (x : Fin 2) (f : Side → Side) : (s.modSide x f).port = s.port := rfl
@[simp] theorem State.modSide_time (x : Fin 2) (f : Side → Side) : (s.modSide x f).time = s.time := rfl
@[simp] theorem State.modSide_inReset (x : Fin 2) (f : Side → Side) : (s.modSide x f).inReset = s.inReset := rfl
@[simp] theorem State.modSide_pending (x : Fin 2) (f : Side → Side) : (s.modSide x f).pending = s.pending := rfl

/-! ### notify -/

@[simp] theorem State.notify_transit (k : Kind) (subject value : Nat) :
    (s.notify k subject value).transit = s.transit := rfl
@[simp] theorem State.notify_streams (k : Kind) (subject value : Nat) :
    (s.notify k subject value).streams = s.streams := rfl
@[simp] theorem State.notify_pool (k : Kind) (subject value : Nat) : (s.notify k subject value).pool = s.pool := rfl
@[simp] theorem State.notify_evals (k : Kind) (subject value : Nat) : (s.notify k subject value).evals = s.evals := rfl
@[simp] theorem State.notify_comp (k : Kind) (subject value : Nat) : (s.notify k subject value).comp = s.comp := rfl
@[simp] theorem State.notify_lines (k : Kind) (subject value : Nat) : (s.notify k subject value).lines = s.lines := rfl
@[simp] theorem State.notify_holds (k : Kind) (subject value : Nat) : (s.notify k subject value).holds = s.holds := rfl
@[simp] theorem State.notify_notices (k : Kind) (subject value : Nat) :
    (s.notify k subject value).notices = s.notices.take s.time k subject value := rfl
@[simp] theorem State.notify_port (k : Kind) (subject value : Nat) : (s.notify k subject value).port = s.port := rfl
@[simp] theorem State.notify_time (k : Kind) (subject value : Nat) : (s.notify k subject value).time = s.time := rfl
@[simp] theorem State.notify_inReset (k : Kind) (subject value : Nat) :
    (s.notify k subject value).inReset = s.inReset := rfl
@[simp] theorem State.notify_pending (k : Kind) (subject value : Nat) :
    (s.notify k subject value).pending = s.pending := rfl

/-! ### driveZeros -/

@[simp] theorem State.driveZeros_transit (body : List Byte) : (s.driveZeros body).transit = s.transit := rfl
@[simp] theorem State.driveZeros_streams (body : List Byte) : (s.driveZeros body).streams = s.streams := rfl
@[simp] theorem State.driveZeros_pool (body : List Byte) : (s.driveZeros body).pool = s.pool := rfl
@[simp] theorem State.driveZeros_evals (body : List Byte) : (s.driveZeros body).evals = s.evals := rfl
@[simp] theorem State.driveZeros_comp (body : List Byte) : (s.driveZeros body).comp = s.comp := rfl
@[simp] theorem State.driveZeros_lines (body : List Byte) : (s.driveZeros body).lines = s.lines := rfl
@[simp] theorem State.driveZeros_holds (body : List Byte) : (s.driveZeros body).holds = s.holds := rfl
@[simp] theorem State.driveZeros_notices (body : List Byte) : (s.driveZeros body).notices = s.notices := rfl
@[simp] theorem State.driveZeros_port (body : List Byte) :
    (s.driveZeros body).port = { s.port with miso := List.replicate (body.length + 1) 0 } := rfl
@[simp] theorem State.driveZeros_time (body : List Byte) : (s.driveZeros body).time = s.time := rfl
@[simp] theorem State.driveZeros_inReset (body : List Byte) : (s.driveZeros body).inReset = s.inReset := rfl
@[simp] theorem State.driveZeros_pending (body : List Byte) : (s.driveZeros body).pending = s.pending := rfl

/-! ### reply -/

@[simp] theorem State.reply_transit (st : Status) (data : List Byte) : (s.reply st data).transit = s.transit := rfl
@[simp] theorem State.reply_streams (st : Status) (data : List Byte) : (s.reply st data).streams = s.streams := rfl
@[simp] theorem State.reply_pool (st : Status) (data : List Byte) : (s.reply st data).pool = s.pool := rfl
@[simp] theorem State.reply_evals (st : Status) (data : List Byte) : (s.reply st data).evals = s.evals := rfl
@[simp] theorem State.reply_comp (st : Status) (data : List Byte) : (s.reply st data).comp = s.comp := rfl
@[simp] theorem State.reply_lines (st : Status) (data : List Byte) : (s.reply st data).lines = s.lines := rfl
@[simp] theorem State.reply_holds (st : Status) (data : List Byte) : (s.reply st data).holds = s.holds := rfl
@[simp] theorem State.reply_notices (st : Status) (data : List Byte) : (s.reply st data).notices = s.notices := rfl
@[simp] theorem State.reply_port (st : Status) (data : List Byte) :
    (s.reply st data).port = { s.port with buffer := .ready st data } := rfl
@[simp] theorem State.reply_time (st : Status) (data : List Byte) : (s.reply st data).time = s.time := rfl
@[simp] theorem State.reply_inReset (st : Status) (data : List Byte) : (s.reply st data).inReset = s.inReset := rfl
@[simp] theorem State.reply_pending (st : Status) (data : List Byte) : (s.reply st data).pending = s.pending := rfl

/-! ### refuse -/

@[simp] theorem State.refuse_transit (st : Status) : (s.refuse st).transit = s.transit := rfl
@[simp] theorem State.refuse_streams (st : Status) : (s.refuse st).streams = s.streams := rfl
@[simp] theorem State.refuse_pool (st : Status) : (s.refuse st).pool = s.pool := rfl
@[simp] theorem State.refuse_evals (st : Status) : (s.refuse st).evals = s.evals := rfl
@[simp] theorem State.refuse_comp (st : Status) : (s.refuse st).comp = s.comp := rfl
@[simp] theorem State.refuse_lines (st : Status) : (s.refuse st).lines = s.lines := rfl
@[simp] theorem State.refuse_holds (st : Status) : (s.refuse st).holds = s.holds := rfl
@[simp] theorem State.refuse_notices (st : Status) : (s.refuse st).notices = s.notices := rfl
@[simp] theorem State.refuse_port (st : Status) : (s.refuse st).port = { s.port with buffer := .ready st [] } := rfl
@[simp] theorem State.refuse_time (st : Status) : (s.refuse st).time = s.time := rfl
@[simp] theorem State.refuse_inReset (st : Status) : (s.refuse st).inReset = s.inReset := rfl
@[simp] theorem State.refuse_pending (st : Status) : (s.refuse st).pending = s.pending := rfl

/-! ### responds -/

@[simp] theorem State.responds_transit (n : Nat) (st : Status) (data : List Byte) :
    (s.responds n st data).transit = s.transit := rfl
@[simp] theorem State.responds_streams (n : Nat) (st : Status) (data : List Byte) :
    (s.responds n st data).streams = s.streams := rfl
@[simp] theorem State.responds_pool (n : Nat) (st : Status) (data : List Byte) :
    (s.responds n st data).pool = s.pool := rfl
@[simp] theorem State.responds_evals (n : Nat) (st : Status) (data : List Byte) :
    (s.responds n st data).evals = s.evals := rfl
@[simp] theorem State.responds_comp (n : Nat) (st : Status) (data : List Byte) :
    (s.responds n st data).comp = s.comp := rfl
@[simp] theorem State.responds_lines (n : Nat) (st : Status) (data : List Byte) :
    (s.responds n st data).lines = s.lines := rfl
@[simp] theorem State.responds_holds (n : Nat) (st : Status) (data : List Byte) :
    (s.responds n st data).holds = s.holds := rfl
@[simp] theorem State.responds_notices (n : Nat) (st : Status) (data : List Byte) :
    (s.responds n st data).notices = s.notices := rfl
@[simp] theorem State.responds_port (n : Nat) (st : Status) (data : List Byte) :
    (s.responds n st data).port = { s.port with buffer := .ready st data, miso := List.replicate n 0 } := rfl
@[simp] theorem State.responds_time (n : Nat) (st : Status) (data : List Byte) :
    (s.responds n st data).time = s.time := rfl
@[simp] theorem State.responds_inReset (n : Nat) (st : Status) (data : List Byte) :
    (s.responds n st data).inReset = s.inReset := rfl
@[simp] theorem State.responds_pending (n : Nat) (st : Status) (data : List Byte) :
    (s.responds n st data).pending = s.pending := rfl

/-! ### The record of one stream or screen under the updates of other blocks -/

@[simp] theorem State.modTransit_stream (f : Transit → Transit) (j : Fin 16) :
    (s.modTransit f).stream j = s.stream j := rfl
@[simp] theorem State.modTransit_screen (f : Transit → Transit) (d : Fin 2) :
    (s.modTransit f).screen d = s.screen d := rfl
@[simp] theorem State.modStream_screen (i : Fin 16) (f : Stream → Stream) (d : Fin 2) :
    (s.modStream i f).screen d = s.screen d := rfl
@[simp] theorem State.modPool_stream (f : SlotPool → SlotPool) (j : Fin 16) :
    (s.modPool f).stream j = s.stream j := rfl
@[simp] theorem State.modPool_screen (f : SlotPool → SlotPool) (d : Fin 2) :
    (s.modPool f).screen d = s.screen d := rfl
@[simp] theorem State.modEvals_stream (f : Evaluator → Evaluator) (j : Fin 16) :
    (s.modEvals f).stream j = s.stream j := rfl
@[simp] theorem State.modEvals_screen (f : Evaluator → Evaluator) (d : Fin 2) :
    (s.modEvals f).screen d = s.screen d := rfl
@[simp] theorem State.modScreen_stream (c : Fin 2) (f : Screen → Screen) (j : Fin 16) :
    (s.modScreen c f).stream j = s.stream j := rfl
@[simp] theorem State.modLines_stream (f : LineMonitor → LineMonitor) (j : Fin 16) :
    (s.modLines f).stream j = s.stream j := rfl
@[simp] theorem State.modLines_screen (f : LineMonitor → LineMonitor) (d : Fin 2) :
    (s.modLines f).screen d = s.screen d := rfl
@[simp] theorem State.modHolds_stream (f : HoldTable → HoldTable) (j : Fin 16) :
    (s.modHolds f).stream j = s.stream j := rfl
@[simp] theorem State.modHolds_screen (f : HoldTable → HoldTable) (d : Fin 2) :
    (s.modHolds f).screen d = s.screen d := rfl
@[simp] theorem State.modNotices_stream (f : NoticeQueue → NoticeQueue) (j : Fin 16) :
    (s.modNotices f).stream j = s.stream j := rfl
@[simp] theorem State.modNotices_screen (f : NoticeQueue → NoticeQueue) (d : Fin 2) :
    (s.modNotices f).screen d = s.screen d := rfl
@[simp] theorem State.modPort_stream (f : ControlPort → ControlPort) (j : Fin 16) :
    (s.modPort f).stream j = s.stream j := rfl
@[simp] theorem State.modPort_screen (f : ControlPort → ControlPort) (d : Fin 2) :
    (s.modPort f).screen d = s.screen d := rfl
@[simp] theorem State.modCapture_screen (i : Fin 16) (f : Capture → Capture) (d : Fin 2) :
    (s.modCapture i f).screen d = s.screen d := rfl
@[simp] theorem State.modAcc_screen (i : Fin 16) (f : Accumulators → Accumulators) (d : Fin 2) :
    (s.modAcc i f).screen d = s.screen d := rfl
@[simp] theorem State.modSide_stream (x : Fin 2) (f : Side → Side) (j : Fin 16) :
    (s.modSide x f).stream j = s.stream j := rfl
@[simp] theorem State.modSide_screen (x : Fin 2) (f : Side → Side) (d : Fin 2) :
    (s.modSide x f).screen d = s.screen d := rfl
@[simp] theorem State.notify_stream (k : Kind) (subject value : Nat) (j : Fin 16) :
    (s.notify k subject value).stream j = s.stream j := rfl
@[simp] theorem State.notify_screen (k : Kind) (subject value : Nat) (d : Fin 2) :
    (s.notify k subject value).screen d = s.screen d := rfl
@[simp] theorem State.driveZeros_stream (body : List Byte) (j : Fin 16) :
    (s.driveZeros body).stream j = s.stream j := rfl
@[simp] theorem State.driveZeros_screen (body : List Byte) (d : Fin 2) :
    (s.driveZeros body).screen d = s.screen d := rfl
@[simp] theorem State.reply_stream (st : Status) (data : List Byte) (j : Fin 16) :
    (s.reply st data).stream j = s.stream j := rfl
@[simp] theorem State.reply_screen (st : Status) (data : List Byte) (d : Fin 2) :
    (s.reply st data).screen d = s.screen d := rfl
@[simp] theorem State.refuse_stream (st : Status) (j : Fin 16) :
    (s.refuse st).stream j = s.stream j := rfl
@[simp] theorem State.refuse_screen (st : Status) (d : Fin 2) :
    (s.refuse st).screen d = s.screen d := rfl
@[simp] theorem State.responds_stream (n : Nat) (st : Status) (data : List Byte) (j : Fin 16) :
    (s.responds n st data).stream j = s.stream j := rfl
@[simp] theorem State.responds_screen (n : Nat) (st : Status) (data : List Byte) (d : Fin 2) :
    (s.responds n st data).screen d = s.screen d := rfl

theorem State.modStream_stream (i j : Fin 16) (f : Stream → Stream) :
    (s.modStream i f).stream j = if i = j then f (s.stream j) else s.stream j := modAt_get _ _ _ _
theorem State.modCapture_stream (i j : Fin 16) (f : Capture → Capture) :
    (s.modCapture i f).stream j = if i = j then { s.stream j with cap := f (s.stream j).cap } else s.stream j :=
  modAt_get _ _ _ _
theorem State.modAcc_stream (i j : Fin 16) (f : Accumulators → Accumulators) :
    (s.modAcc i f).stream j = if i = j then { s.stream j with acc := f (s.stream j).acc } else s.stream j :=
  modAt_get _ _ _ _
theorem State.modScreen_screen (c d : Fin 2) (f : Screen → Screen) :
    (s.modScreen c f).screen d = if c = d then f (s.screen d) else s.screen d := modAt_get _ _ _ _

end Sys2Proof.Machine
end

