-- ==== Sys2Proof/Laws/Slots.lean ====
section
/-! SUPPORT. What the operations of the Slot Pool can do, said once (R47, R48, R53). -/

namespace Sys2Proof.Machine

theorem Slot.available_iff (x : Slot) : x.available = true ↔ x.life = .free ∧ x.pins = 0 ∧ x.hold = none := by
  simp [Slot.available]

/-! ### One record changed -/

theorem SlotPool.update_slots (p : SlotPool) (n m : Nat) (f : Slot → Slot) :
    (p.update n f).slots[m]? = if n = m then (p.slots[m]?).map f else p.slots[m]? := by
  unfold SlotPool.update
  by_cases h : n = m
  · subst h
    cases hx : p.slots[n]? with
    | none => simp [hx]
    | some x =>
      obtain ⟨hn, _⟩ := List.getElem?_eq_some_iff.mp hx
      simp [hn]
  · cases hx : p.slots[n]? with
    | none => simp [h]
    | some x => simp [List.getElem?_set_ne h, h]

@[simp] theorem SlotPool.update_length (p : SlotPool) (n : Nat) (f : Slot → Slot) :
    (p.update n f).slots.length = p.slots.length := by
  unfold SlotPool.update; split <;> simp

/-- Changing one record leaves the configuration and the content lists alone. -/
theorem SlotPool.update_frame (p : SlotPool) (n : Nat) (f : Slot → Slot) :
    (p.update n f).isSet = p.isSet ∧ (p.update n f).base = p.base ∧ (p.update n f).review = p.review
      ∧ (p.update n f).size = p.size ∧ (p.update n f).count = p.count ∧ (p.update n f).content = p.content := by
  unfold SlotPool.update; split <;> exact ⟨rfl, rfl, rfl, rfl, rfl, rfl⟩

@[simp] theorem SlotPool.update_content (p : SlotPool) (n : Nat) (f : Slot → Slot) :
    (p.update n f).content = p.content := (p.update_frame n f).2.2.2.2.2

@[simp] theorem SlotPool.update_base (p : SlotPool) (n : Nat) (f : Slot → Slot) : (p.update n f).base = p.base :=
  (p.update_frame n f).2.1

@[simp] theorem SlotPool.update_size (p : SlotPool) (n : Nat) (f : Slot → Slot) : (p.update n f).size = p.size :=
  (p.update_frame n f).2.2.2.1

/-- What changing one record does to the free list (R47). -/
theorem SlotPool.update_free (p : SlotPool) (n : Nat) (f : Slot → Slot) :
    (p.update n f).free = match p.slots[n]? with
      | none => p.free
      | some x =>
        if x.available then (if (f x).available then p.free else p.free.erase n)
        else (if (f x).available then p.free ++ [n] else p.free) := by
  unfold SlotPool.update; cases p.slots[n]? <;> rfl

/-- Changing one record keeps the free list exact (R47). -/
theorem SlotPool.update_exact (p : SlotPool) (h : p.FreeListExact) (n : Nat) (f : Slot → Slot) :
    (p.update n f).FreeListExact := by
  obtain ⟨hd, hm⟩ := h
  unfold SlotPool.FreeListExact
  simp only [← Slot.available_iff] at hm ⊢
  simp only [p.update_slots]
  cases hx : p.slots[n]? with
  | none =>
    simp only [p.update_free, hx]
    refine ⟨hd, fun m => ?_⟩
    rw [hm]
    by_cases e : n = m
    · subst e; simp [hx]
    · simp [e]
  | some x =>
    have hn : n ∈ p.free ↔ x.available = true := by rw [hm, hx]; simp
    simp only [p.update_free, hx]
    cases hb : x.available <;> cases ha : (f x).available <;> simp only [Bool.false_eq_true, if_true, if_false]
    · refine ⟨hd, fun m => ?_⟩
      by_cases e : n = m
      · subst e; simp [hx, ha, hn, hb]
      · simp [e, hm]
    · have hnot : n ∉ p.free := by rw [hn, hb]; simp
      refine ⟨?_, fun m => ?_⟩
      · rw [List.nodup_append]
        exact ⟨hd, by simp, by rintro a h1 b h2 rfl; simp at h2; exact hnot (h2 ▸ h1)⟩
      · by_cases e : n = m
        · subst e; simp [hx, ha]
        · simp [e, hm, Ne.symm e]
    · refine ⟨hd.erase n, fun m => ?_⟩
      rw [hd.mem_erase_iff]
      by_cases e : n = m
      · subst e; simp [hx, ha]
      · simp [e, hm, Ne.symm e]
    · refine ⟨hd, fun m => ?_⟩
      by_cases e : n = m
      · subst e; simp [hx, ha, hn, hb]
      · simp [e, hm]

/-- A change of the content lists keeps the free list exact. -/
theorem SlotPool.content_exact (p : SlotPool) (h : p.FreeListExact) (c : Vector (List Nat) 16) :
    ({ p with content := c } : SlotPool).FreeListExact := h

/-- A list of changes of records, one after another, keeps the free list exact. -/
theorem SlotPool.foldl_exact (l : List Nat) (g : SlotPool → Nat → SlotPool)
    (hg : ∀ p n, p.FreeListExact → (g p n).FreeListExact) (p : SlotPool) (h : p.FreeListExact) :
    (l.foldl g p).FreeListExact := by
  induction l generalizing p with
  | nil => exact h
  | cons n l ih => exact ih _ (hg p n h)

/-- The pool SET POOL makes has an exact free list (R45). -/
theorem SlotPool.rebuild_exact (base review size count : Nat) : (SlotPool.rebuild base review size count).FreeListExact := by
  refine ⟨List.nodup_range, fun n => ?_⟩
  simp only [SlotPool.rebuild, List.mem_range]
  constructor
  · intro h; exact ⟨Slot.fresh, by simp [h], rfl, rfl, rfl⟩
  · rintro ⟨x, hx, -⟩
    simpa using (List.getElem?_eq_some_iff.mp hx).1

/-! ### Allocation (R48) -/

/-- An allocation gives the first slot of the free list that the stream owns; with none there, no slot. -/
theorem SlotPool.allocate_eq_none (p : SlotPool) (i : Fin 16) :
    p.allocate i = none ↔ ∀ n ∈ p.free, p.owns i n = false := by
  unfold SlotPool.allocate
  cases h : p.free.find? (p.owns i) with
  | none => simpa using List.find?_eq_none.mp h
  | some n =>
    have h1 := List.find?_some h
    have h2 := List.mem_of_find?_eq_some h
    simp only [reduceCtorEq, false_iff, not_forall]
    exact ⟨n, h2, by simp [h1]⟩

end Sys2Proof.Machine
end

