-- ==== Sys2Proof/Laws/Capture.lean ====
section
/-! SUPPORT. What taking a capture write, and taking the held writes in turn, can do, said once (R21 to R31, R48). -/

namespace Sys2Proof.Machine

/-- An allocation gives the first slot of the free list that the stream owns, and what it leaves of the pool (R48). -/
theorem SlotPool.allocate_eq_some (p : SlotPool) (i : Fin 16) (n : Nat) (pre post : List Nat)
    (hf : p.free = pre ++ n :: post) (hpre : ∀ m ∈ pre, p.owns i m = false) (hn : p.owns i n = true) :
    ∃ p', p.allocate i = some (n, p') ∧ p'.base = p.base ∧ p'.size = p.size
      ∧ (p.FreeListExact → p.Gives p' i n pre post) := by
  have found : p.free.find? (p.owns i) = some n := by
    rw [hf, List.find?_append, List.find?_eq_none.mpr (fun m hm => by simp [hpre m hm])]
    simp [hn]
  unfold SlotPool.allocate
  rw [found]
  refine ⟨_, rfl, by simp, by simp, fun exact_ => ?_⟩
  obtain ⟨x, hx, hl, hp, hh⟩ := (exact_.2 n).mp (by rw [hf]; simp)
  have hnot : n ∉ pre := fun h => by rw [hpre n h] at hn; cases hn
  have frame := p.update_frame n (fun x : Slot => { x.clearContent with life := .filling })
  refine ⟨?_, by simp, ⟨x, hx, by simp [p.update_slots, hx, Slot.clearContent]⟩,
    fun m hm => by simp [p.update_slots, Ne.symm hm], frame.1, frame.2.1, frame.2.2.1, frame.2.2.2.1, frame.2.2.2.2.1⟩
  show (p.update n _).free = _
  rw [p.update_free, hx]
  simp [Slot.available, hl, hp, hh, hf, List.erase_append_right _ hnot]

/-- A start write taken in IDLE (R24, R25). -/
theorem State.frameStart_spec (s : State) (i : Fin 16) (w : CaptureWrite) (hw : w.offset = 0) :
    s.FrameStarts (s.frameStart i w) i w := by
  constructor
  · intro n pre post hf hpre hn
    obtain ⟨p', hp, hb, hs, hg⟩ := s.pool.allocate_eq_some i n pre post hf hpre hn
    refine ⟨p', hg, ?_⟩
    unfold State.frameStart
    simp only [State.modAcc, State.modStream_pool, hp]
    simp [State.steer, State.modStream, State.modTransit, Filling.begin, steeredRequest, SlotPool.slotBase, hb, hs,
      Transit.modWrite, Transit.form, State.steeredTo, modAt_modAt, hw, Filling.afterWrite, Accumulators.afterWrite,
      StreamConfig.begun, StreamConfig.cleared, Accumulators.start, frameSizeOf, Config.headerBytes, State.stream]
    exact modAt_congr _ _ _ _ rfl
  · intro h
    unfold State.frameStart
    simp only [State.modAcc, State.modStream_pool, (s.pool.allocate_eq_none i).mpr h]
    simp [State.absorb, State.frameLost, State.notify, State.modNotices, State.modCapture, State.modStream,
      State.modTransit, Transit.modWrite, modAt_modAt, StreamConfig.cleared, Accumulators.start, satAdd, top16, State.stream]
    exact modAt_congr _ _ _ _ rfl

theorem State.torn_eq (s : State) (i : Fin 16) (f : Filling) :
    (s.abandonFrame i f).frameLost i 2 = s.torn i f.slot := by
  simp [State.abandonFrame, State.frameLost, State.torn, State.notify, State.modNotices, State.modCapture, State.modStream,
    State.modAcc, State.modPool, modAt_modAt, Accumulators.dropTo, satAdd, top16]

/-- What steering a write into the frame in progress does (R28 to R30). -/
theorem State.steer_eq (s : State) (i : Fin 16) (f : Filling) (w : CaptureWrite) :
    s.steer i f w = s.steered i f w := by
  unfold State.steer State.steered
  cases hd : f.disordered <;> by_cases ho : w.offset = f.offset <;>
    simp [hd, ho, State.notify, State.modNotices, State.modStream, State.modTransit, steeredRequest, SlotPool.slotBase,
      Transit.modWrite, Transit.form, State.steeredTo, Filling.afterWrite, Accumulators.afterWrite, Accumulators.dropTo]

/-- A write is taken under the rule that fits it (section 2.3). -/
theorem State.takeWrite_spec (s : State) (i : Fin 16) (w : CaptureWrite) : s.WriteTaken (s.takeWrite i w) i w := by
  unfold State.takeWrite
  refine ⟨fun h => by simp only [h]; rfl, fun h => ?_⟩
  simp only [h, Bool.not_true, Bool.false_eq_true, if_false]
  refine ⟨fun hf ho => ?_, fun hf ho => ?_, fun f hf => ⟨fun ho => ?_, fun ho hs => ?_, fun ho hs => ?_⟩⟩
  · simp only [hf, if_neg (Nat.ne_of_gt ho)]; rfl
  · simp only [hf, if_pos ho]; exact s.frameStart_spec i w ho
  · simp only [hf, if_pos ho]
    rw [s.torn_eq i f]
    exact State.frameStart_spec _ i w ho
  · simp only [hf, if_neg (Nat.ne_of_gt ho), if_pos hs]; rfl
  · simp only [hf, if_neg (Nat.ne_of_gt ho), if_neg (Nat.not_le.mpr hs)]
    exact s.steer_eq i f w

theorem Capture.waits_iff (c : Capture) (w : CaptureWrite) : c.mustWait w = true ↔ c.Waits w := by
  unfold Capture.mustWait Capture.Waits
  cases c.fill <;> simp

/-- Held writes are taken in turn. -/
theorem State.takeHeld_spec (i : Fin 16) (l : List CaptureWrite) (s : State) :
    s.TakesInTurn (State.takeHeld i l s) i l := by
  induction l generalizing s with
  | nil => rfl
  | cons w rest ih =>
    unfold State.takeHeld
    constructor
    · intro h; rw [if_pos ((Capture.waits_iff _ w).mpr h)]; rfl
    · intro h
      rw [if_neg (fun h' => h ((Capture.waits_iff _ w).mp h'))]
      exact ⟨_, s.takeWrite_spec i w, ih _⟩

end Sys2Proof.Machine
end

