-- ==== Sys2Proof/Laws/Drain.lean ====
section
/-! SUPPORT. What the recomputation of the hidden flag and the operations of a drain completion can do, said once (R118,
R141, R161). -/

namespace Sys2Proof.Machine

/-- The recomputation of the hidden flag is the one event of R141. -/
theorem State.recomputeHidden_eq (s : State) : s.recomputeHidden = s.withLines s.lines := by
  have live : s.isLive = decide (s.transit.mode = .active ∨ s.transit.mode = .draining ∧ s.transit.drainedFrom = .active) := by
    unfold State.isLive
    cases s.transit.mode <;> cases s.transit.drainedFrom <;> rfl
  unfold State.recomputeHidden State.withLines
  simp only [live, Bool.and_eq_true, Bool.not_eq_true', decide_eq_true_eq, and_assoc]
  split <;> rfl

/-- A flag that follows R140 already is left by the recomputation, and nothing is sent. -/
theorem State.recomputeHidden_of_exact (s : State) (h : s.lines.hidden = s.lines.reverseIsHidden) :
    s.recomputeHidden = s := by
  rw [State.recomputeHidden_eq]
  unfold State.withLines
  rw [← h, if_neg (by cases s.lines.hidden <;> simp)]

/-- Closing a screen's frame changes the pool and that screen only (R118). -/
theorem State.closeAnyFrame_frame (s : State) (c : Fin 2) : ∃ pool comp, s.closeAnyFrame c = { s with pool, comp } := by
  unfold State.closeAnyFrame
  split <;> exact ⟨_, _, rfl⟩

/-- The discard of the groups: their notices oldest first, and then no group and no mapping (R161). -/
theorem State.discardGroups_eq (s : State) : s.discardGroups = { s with
    notices := s.holds.groups.foldl (fun q g => q.take s.time .holdReleased g.id (768 + g.slots.length)) s.notices
    holds := { s.holds with groups := [], mapping := none } } := by
  have sent (l : List Group) (u : State) :
      l.foldl (fun s g => s.notify .holdReleased g.id (256 * 3 + g.slots.length)) u = { u with
        notices := l.foldl (fun q g => q.take u.time .holdReleased g.id (768 + g.slots.length)) u.notices } := by
    induction l generalizing u with
    | nil => rfl
    | cons g l ih => simp only [List.foldl]; rw [ih]; rfl
  unfold State.discardGroups
  rw [sent]
  rfl

/-- Closing a served frame reads nothing of the device mode and leaves the Transit Path, the lines and part time. -/
theorem State.closeIfServed_mode (s : State) (c : Fin 2) (mode : Mode) :
    ({ s with transit := { s.transit with mode } } : State).closeIfServed c
        = { s.closeIfServed c with transit := { s.transit with mode } }
      ∧ (s.closeIfServed c).transit = s.transit ∧ (s.closeIfServed c).lines = s.lines
      ∧ (s.closeIfServed c).time = s.time := by
  have same : (({ s with transit := { s.transit with mode } } : State).screen c).frame = (s.screen c).frame := rfl
  unfold State.closeIfServed
  rw [same]
  cases (s.screen c).frame with
  | none => exact ⟨rfl, rfl, rfl, rfl⟩
  | some f =>
    simp only []
    split <;> exact ⟨rfl, rfl, rfl, rfl⟩

/-- The return of a read reads nothing of the device mode and leaves the Transit Path, the lines and part time. -/
theorem State.readReturned_mode (s : State) (x : ReadTxn) (mode : Mode) :
    ({ s with transit := { s.transit with mode } } : State).readReturned x
        = { s.readReturned x with transit := { s.transit with mode } }
      ∧ (s.readReturned x).transit = s.transit ∧ (s.readReturned x).lines = s.lines
      ∧ (s.readReturned x).time = s.time := by
  unfold State.readReturned
  cases x.service with
  | review slot offset size serial auto =>
    simp only []
    cases autoReleases s.holds.mapping x <;> exact ⟨rfl, rfl, rfl, rfl⟩
  | screen r =>
    simp only [State.screenReturned]
    split
    · exact State.closeIfServed_mode (s.modScreen r.screen (fun x =>
        { x with frame := x.frame.map (fun f => { f with inFlight := f.inFlight - 1 }) })) r.screen mode
    · exact ⟨rfl, rfl, rfl, rfl⟩
  | _ => exact ⟨rfl, rfl, rfl, rfl⟩

end Sys2Proof.Machine
end

