-- ==== Sys2Proof/Laws/Holds.lean ====
section
/-! SUPPORT. What a decision on a hold can be, said once (R148, R150). -/

namespace Sys2Proof.Machine

/-- The id a new group takes lies in 1–8 and no group has it. -/
theorem HoldTable.freeId_spec (t : HoldTable) (id : Nat) (h : t.freeId = some id) :
    1 ≤ id ∧ id ≤ 8 ∧ ∀ g ∈ t.groups, g.id ≠ id := by
  unfold HoldTable.freeId at h
  have h1 := List.find?_some h
  have h2 := List.mem_of_find?_eq_some h
  simp only [Config.holdCapacity, List.mem_range'] at h2
  obtain ⟨k, hk, rfl⟩ := h2
  simp only [Bool.not_eq_true', List.any_eq_false, decide_eq_true_eq] at h1
  exact ⟨by omega, by omega, h1⟩

/-- A hold that is made holds at least one slot, at most pre, as many as there are candidates, leaves the total at 8 and
the stream with 2 unheld slots (R149, R150). -/
theorem State.decideHold_made (s : State) (i : Fin 16) (pre id h : Nat) (hd : s.decideHold i pre = .made id h) :
    s.holds.freeId = some id ∧ 1 ≤ h ∧ h ≤ pre ∧ h ≤ (s.pool.candidates i).length ∧ h + s.holds.total ≤ 8
      ∧ h + 2 ≤ s.pool.unheldCount (s.stream i).cfg.slotList := by
  unfold State.decideHold at hd
  simp only [Config.holdCapacity, Config.keptUnheld] at hd
  split at hd
  · cases hd
  · rename_i id' hid
    by_cases hz : min (min pre (s.pool.candidates i).length)
        (min (8 - s.holds.total) (s.pool.unheldCount (s.stream i).cfg.slotList - 2)) = 0
    · rw [if_pos hz] at hd
      by_cases h1 : (s.pool.candidates i).isEmpty = true
      · rw [if_pos h1] at hd; cases hd
      · rw [if_neg h1] at hd
        by_cases h2 : 8 ≤ s.holds.total
        · rw [if_pos h2] at hd; cases hd
        · rw [if_neg h2] at hd; cases hd
    · rw [if_neg hz] at hd
      injection hd with e1 e2
      subst e1
      exact ⟨hid, by omega, by omega, by omega, by omega, by omega⟩

end Sys2Proof.Machine
end

