-- ==== Sys2Proof/Laws/Notices.lean ====
section
/-! SUPPORT. What the operations of the Notice Queue can do, said once (R164 to R167, R170). -/

namespace Sys2Proof.Machine

namespace NoticeQueue

variable (q : NoticeQueue)

@[simp] theorem driveLine_records : q.driveLine.records = q.records := rfl
@[simp] theorem driveLine_lost : q.driveLine.lost = q.lost := rfl
@[simp] theorem driveLine_due : q.driveLine.due = q.due := rfl
@[simp] theorem driveLine_timer : q.driveLine.timer = q.timer := rfl
@[simp] theorem driveLine_enable : q.driveLine.enable = q.enable := rfl
@[simp] theorem driveLine_immediate : q.driveLine.immediate = q.immediate := rfl
@[simp] theorem driveLine_trigger : q.driveLine.trigger = q.trigger := rfl
@[simp] theorem driveLine_linger : q.driveLine.linger = q.linger := rfl
@[simp] theorem driveLine_asserted : q.driveLine.asserted = q.lineCondition := rfl
@[simp] theorem driveLine_lineCondition : q.driveLine.lineCondition = q.lineCondition := rfl

/-- Deciding the linger due flag and timer touches nothing else. -/
theorem decideLinger_frame (now : Time) :
    ∃ due timer, q.decideLinger now = { q with due := due, timer := timer } := by
  unfold decideLinger
  split
  · exact ⟨false, none, rfl⟩
  · split
    · exact ⟨true, none, rfl⟩
    · exact ⟨false, _, rfl⟩

@[simp] theorem decideLinger_records (now : Time) : (q.decideLinger now).records = q.records := by
  obtain ⟨d, t, h⟩ := q.decideLinger_frame now; rw [h]
@[simp] theorem decideLinger_lost (now : Time) : (q.decideLinger now).lost = q.lost := by
  obtain ⟨d, t, h⟩ := q.decideLinger_frame now; rw [h]
@[simp] theorem decideLinger_enable (now : Time) : (q.decideLinger now).enable = q.enable := by
  obtain ⟨d, t, h⟩ := q.decideLinger_frame now; rw [h]

/-- Everything that taking one notice can do (R164, R165): nothing for a disabled kind; one more repeat of the newest
record; a new record at the tail with NTF_N following; or one more lost notice at a full queue. -/
theorem take_cases (now : Time) (k : Kind) (subject value : Nat) :
    (q.enabled k = false ∧ q.take now k subject value = q)
      ∨ (q.enabled k = true ∧ q.merges k subject = true ∧ q.take now k subject value = q.mergeNewest)
      ∨ (q.enabled k = true ∧ q.merges k subject = false ∧ q.records.length < Config.noticeCapacity
          ∧ (q.take now k subject value).records = q.records ++ [⟨k, subject, value, now, 1, q.lost⟩]
          ∧ (q.take now k subject value).lost = 0
          ∧ (q.take now k subject value).asserted = (q.take now k subject value).lineCondition)
      ∨ (q.enabled k = true ∧ q.merges k subject = false ∧ Config.noticeCapacity ≤ q.records.length
          ∧ q.take now k subject value = { q with lost := satAdd 255 q.lost 1 }) := by
  unfold take add
  by_cases he : q.enabled k
  · by_cases hm : q.merges k subject
    · exact .inr (.inl ⟨he, hm, by simp [he, hm]⟩)
    · by_cases hl : q.records.length < Config.noticeCapacity
      · refine .inr (.inr (.inl ⟨he, by simpa using hm, hl, ?_, ?_, ?_⟩)) <;> simp only [he, hm, hl] <;>
          simp <;> split <;> simp
      · exact .inr (.inr (.inr ⟨he, by simpa using hm, by omega, by simp [he, hm, hl]⟩))
  · exact .inl ⟨by simpa using he, by simp [he]⟩

/-- The four settings of the queue are untouched by a notice. -/
theorem take_settings (now : Time) (k : Kind) (subject value : Nat) :
    (q.take now k subject value).enable = q.enable ∧ (q.take now k subject value).immediate = q.immediate
      ∧ (q.take now k subject value).trigger = q.trigger ∧ (q.take now k subject value).linger = q.linger := by
  have hd : ∀ (p : NoticeQueue), (p.decideLinger now).immediate = p.immediate ∧ (p.decideLinger now).trigger = p.trigger
      ∧ (p.decideLinger now).linger = p.linger := by
    intro p; obtain ⟨d, t, h⟩ := p.decideLinger_frame now; rw [h]; exact ⟨rfl, rfl, rfl⟩
  unfold take add mergeNewest
  split
  · exact ⟨rfl, rfl, rfl, rfl⟩
  · split
    · split <;> exact ⟨rfl, rfl, rfl, rfl⟩
    · split
      · dsimp only
        split <;> simp [hd]
      · exact ⟨rfl, rfl, rfl, rfl⟩

end NoticeQueue

end Sys2Proof.Machine
end

