-- ==== Sys2Proof/Laws/Requests.lean ====
section
/-! SUPPORT. What a request frame can do, said once (R173, R175, R184). -/

namespace Sys2Proof.Machine

/-- A frame the part hears is refused BAD_PARAM when its form is wrong, and otherwise carried out by its command. -/
theorem State.request_heard (s : State) (h : s.hears) (lenOk : Nat → Bool) (body : List Byte)
    (k : List Byte → State → State) :
    s.request lenOk body k =
      match checkFrame lenOk body with
      | none => (s.driveZeros body).refuse .badParam
      | some ps => k ps (s.driveZeros body) := by
  obtain ⟨h1, h2⟩ := h
  unfold State.request
  rw [h1]
  cases hb : s.port.buffer with
  | pending c => exact absurd hb (h2 c)
  | empty => rfl
  | ready st data => rfl

/-- While RESET_N is asserted a frame changes nothing. -/
theorem State.request_inReset (s : State) (h : s.inReset = true) (lenOk : Nat → Bool) (body : List Byte)
    (k : List Byte → State → State) : s.request lenOk body k = s := by simp [State.request, h]

/-- While a mode command is PENDING a frame is lost. -/
theorem State.request_pending (s : State) (h : s.inReset = false) (c : Change) (hb : s.port.buffer = .pending c)
    (lenOk : Nat → Bool) (body : List Byte) (k : List Byte → State → State) :
    s.request lenOk body k = s.driveZeros body := by simp [State.request, h, hb]

/-- Everything a request frame can do: nothing, MISO zeros, BAD_PARAM, or the command on its parameters. -/
theorem State.request_cases (s : State) (lenOk : Nat → Bool) (body : List Byte) (k : List Byte → State → State) :
    (s.inReset = true ∧ s.request lenOk body k = s)
      ∨ (s.inReset = false ∧ (∃ c, s.port.buffer = .pending c) ∧ s.request lenOk body k = s.driveZeros body)
      ∨ (s.hears ∧ checkFrame lenOk body = none ∧ s.request lenOk body k = (s.driveZeros body).refuse .badParam)
      ∨ (s.hears ∧ ∃ ps, checkFrame lenOk body = some ps ∧ s.request lenOk body k = k ps (s.driveZeros body)) := by
  cases hr : s.inReset with
  | true => exact .inl ⟨rfl, s.request_inReset hr _ _ _⟩
  | false =>
    by_cases hp : ∃ c, s.port.buffer = .pending c
    · obtain ⟨c, hc⟩ := hp
      exact .inr (.inl ⟨rfl, ⟨c, hc⟩, s.request_pending hr c hc _ _ _⟩)
    · have hh : s.hears := ⟨hr, fun c hc => hp ⟨c, hc⟩⟩
      have h := s.request_heard hh lenOk body k
      cases hf : checkFrame lenOk body with
      | none => exact .inr (.inr (.inl ⟨hh, rfl, by simpa [hf] using h⟩))
      | some ps => exact .inr (.inr (.inr ⟨hh, ps, rfl, by simpa [hf] using h⟩))

/-- A frame of the right form gives its parameter bytes. -/
theorem checkFrame_good (n : Nat) (ps : List Byte) (h : ps.length = n) (hn : n ≤ 250) :
    checkFrame (takes n) (BitVec.ofNat 8 n :: ps) = some ps := by
  simp [checkFrame, takes, h, Nat.mod_eq_of_lt (show n < 256 by omega), hn]

/-- A well-formed frame of a command that takes n bytes reaches the command. -/
theorem State.request_good (s : State) (h : s.hears) (n : Nat) (ps : List Byte) (hl : ps.length = n) (hn : n ≤ 250)
    (k : List Byte → State → State) :
    s.request (takes n) (BitVec.ofNat 8 n :: ps) k = k ps (s.driveZeros (BitVec.ofNat 8 n :: ps)) := by
  rw [s.request_heard h, checkFrame_good n ps hl hn]

/-- A reply to a frame of n bytes after the code. -/
theorem State.driveZeros_reply (s : State) (body : List Byte) (st : Status) (data : List Byte) :
    (s.driveZeros body).reply st data = s.responds (body.length + 1) st data := rfl

/-- A refusal of a frame of n bytes after the code. -/
theorem State.driveZeros_refuse (s : State) (body : List Byte) (st : Status) :
    (s.driveZeros body).refuse st = s.responds (body.length + 1) st [] := rfl

end Sys2Proof.Machine
end

