-- ==== Sys2Proof/Laws/Timers.lean ====
section
/-! SUPPORT. What the expiries and the millisecond step can do, said once (R129, R184). -/

namespace Sys2Proof.Machine

theorem timerDue_iff {now : Time} {timer : Option Time} : timerDue now timer = true ↔ timer = some now := by simp [timerDue]

/-! ### An expiry of a timer that is not due is no event -/

theorem State.takeFreshness_of_ne {s : State} {i : Fin 16} (h : (s.stream i).cap.timer ≠ some s.time) :
    s.takeFreshness i = s := by
  unfold State.takeFreshness; rw [if_neg (mt timerDue_iff.mp h)]

theorem State.takeFrame_of_ne {s : State} {c : Fin 2}
    (h : ∀ f, (s.screen c).frame = some f → f.expired = false → f.timer ≠ some s.time) : s.takeFrame c = s := by
  unfold State.takeFrame
  cases hf : (s.screen c).frame with
  | none => rfl
  | some f =>
    have := h f hf
    cases he : f.expired <;> simp_all [timerDue]

theorem State.takeLinger_of_ne {s : State} {x : Fin 2} (h : s.lines.sides[x].timer ≠ some s.time) : s.takeLinger x = s := by
  unfold State.takeLinger; rw [if_neg (mt timerDue_iff.mp h)]

theorem State.takeNoticeLinger_of_ne {s : State} (h : s.notices.timer ≠ some s.time) : s.takeNoticeLinger = s := by
  unfold State.takeNoticeLinger; rw [if_neg (mt timerDue_iff.mp h)]

/-- A list of events that are none leaves the state. -/
theorem foldl_none {α : Type} (f : State → α → State) (s : State) (l : List α) (h : ∀ a ∈ l, f s a = s) : l.foldl f s = s := by
  induction l with
  | nil => rfl
  | cons a l ih => rw [List.foldl_cons, h a (by simp)]; exact ih (fun b hb => h b (by simp [hb]))

/-- With no timer due nothing is left over when part time advances. -/
theorem State.expireDue_of_noneDue {s : State} (h : s.NoneDue s.time) : s.expireDue = s := by
  obtain ⟨h1, h2, h3, h4⟩ := h
  unfold State.expireDue
  rw [foldl_none State.takeFreshness s _ (fun i _ => State.takeFreshness_of_ne (h1 i)),
    foldl_none State.takeFrame s _ (fun c _ => State.takeFrame_of_ne (h2 c)),
    foldl_none State.takeLinger s _ (fun x _ => State.takeLinger_of_ne (h3 x)), State.takeNoticeLinger_of_ne h4]

/-! ### The events of one millisecond -/

theorem mem_distinct {α : Type} [DecidableEq α] (l : List α) (a : α) : a ∈ distinct l ↔ a ∈ l := by
  induction l with
  | nil => simp [distinct]
  | cons x xs ih => by_cases h : a = x <;> simp [distinct, ih, h]

theorem nodup_distinct {α : Type} [DecidableEq α] (l : List α) : (distinct l).Nodup := by
  induction l with
  | nil => exact List.nodup_nil
  | cons x xs ih => simp [distinct, ih.filter]

/-- Every line is sampled at each step, whatever is named. -/
theorem mem_stepOrder_line (order : List StepEvent) (l : Fin 15) : StepEvent.line l ∈ stepOrder order := by
  simp [stepOrder, mem_distinct]

/-- An expiry is among the events of a step when it is named. -/
theorem mem_stepOrder {order : List StepEvent} {e : StepEvent} : e ∈ stepOrder order ↔ e ∈ order ∨ ∃ l, e = .line l := by
  simp [stepOrder, mem_distinct, eq_comm]

/-- No event is taken twice in a step. -/
theorem stepOrder_nodup (order : List StepEvent) : (stepOrder order).Nodup := nodup_distinct _

/-- A step that no expiry is left over for is its events at the next value of part time. -/
theorem State.tick_of_noneDue {s : State} (h : s.NoneDue s.time) (levels : BitVec 15) (order : List StepEvent) :
    s.tick levels order = (stepOrder order).foldl (State.stepEvent levels) { s with time := s.time + 1 } := by
  unfold State.tick; rw [State.expireDue_of_noneDue h]

end Sys2Proof.Machine
end

