-- ==== Sys2Proof/Laws/Transit.lean ====
section
/-! SUPPORT. What the list operations of the Transit Path can do, said once (R1, R3, R4), and every way in which a request
that arrives is dealt with (R2, R13). -/

namespace Sys2Proof.Machine

/-- The first entry of which p holds leaves the list, the others keep their order. -/
theorem removeFirst_append {α : Type} (p : α → Bool) (pre : List α) (x : α) (post : List α)
    (h : ∀ y ∈ pre, p y = false) (hx : p x = true) : removeFirst p (pre ++ x :: post) = pre ++ post := by
  induction pre with
  | nil => simp [removeFirst, hx]
  | cons y ys ih =>
    simp only [List.cons_append, removeFirst, h y (by simp), Bool.false_eq_true, if_false]
    rw [ih (fun z hz => h z (by simp [hz]))]

theorem removeFirst_length_le {α : Type} (p : α → Bool) (l : List α) : (removeFirst p l).length ≤ l.length := by
  induction l with
  | nil => simp [removeFirst]
  | cons x xs ih => unfold removeFirst; split <;> simp; omega

/-- An answer of a transaction issued since the last reset is used, and one of an earlier transaction changes nothing (R16). -/
@[simp] theorem State.answerTo_sinceReset {α : Type} (s : State) (which : α) (use : α → State) :
    s.answerTo (.sinceReset which) use = use which := rfl
@[simp] theorem State.answerTo_beforeReset {α : Type} (s : State) (which : α) (use : α → State) :
    s.answerTo (.beforeReset which) use = s := rfl

/-- The oldest write whose data are outstanding has them taken, and no other (R1). -/
theorem takeData_append (pre : List WriteTxn) (x : WriteTxn) (post : List WriteTxn)
    (h : ∀ y ∈ pre, y.dataTaken = true) (hx : x.dataTaken = false) :
    takeData (pre ++ x :: post) = pre ++ { x with dataTaken := true } :: post := by
  induction pre with
  | nil => simp [takeData, hx]
  | cons y ys ih =>
    simp only [List.cons_append, takeData, h y (by simp), if_true]
    rw [ih (fun z hz => h z (by simp [hz]))]

theorem takeData_length (l : List WriteTxn) : (takeData l).length = l.length := by
  induction l with
  | nil => rfl
  | cons x xs ih => unfold takeData; split <;> simp [ih]

/-- An answer goes to the oldest issued request of which p holds: it is counted down, or removed at its last beat (R4). -/
theorem answerDown_append (p : DownReq → Bool) (pre : List DownReq) (r : DownReq) (post : List DownReq)
    (h : ∀ y ∈ pre, p y = false) (hr : p r = true) :
    answerDown p 0 (pre ++ r :: post)
      = some (r, pre ++ (if r.left ≤ 1 then post else { r with left := r.left - 1 } :: post)) := by
  induction pre with
  | nil => simp [answerDown, hr]
  | cons y ys ih =>
    simp only [List.cons_append, answerDown, h y (by simp), Bool.false_eq_true, if_false]
    rw [ih (fun z hz => h z (by simp [hz]))]
    rfl

/-- An answer that matches no issued request is discarded (R4, R16). -/
theorem answerDown_none (p : DownReq → Bool) (n : Nat) (l : List DownReq) (h : ∀ y ∈ l, p y = false) :
    answerDown p n l = none := by
  induction l with
  | nil => simp [answerDown]
  | cons y ys ih =>
    simp only [answerDown, h y (by simp), Bool.false_eq_true, if_false, ih (fun z hz => h z (by simp [hz]))]
    rfl

/-- Everything that can become of a request that arrives: it is accepted, with its direction below 32 and the part not
DRAINING, or it waits behind the others. -/
theorem State.offer_cases (s : State) (r : PortReq) :
    (s.canAccept r = true ∧ s.offer r = match r with
      | .read q => s.acceptRead q
      | .write q => s.acceptWrite q)
      ∨ s.offer r = s.modTransit (fun t => { t with waiting := t.waiting ++ [r] }) := by
  unfold State.offer
  by_cases h : (s.canAccept r && !s.transit.waiting.any (fun x => decide (x.dir = r.dir))) = true
  · exact .inl ⟨by simp at h; exact h.1, (if_pos h).trans (by cases r <;> rfl)⟩
  · exact .inr (by rw [if_neg h])

end Sys2Proof.Machine
end

