-- ==== Sys2Proof/Laws/Views.lean ====
section
/-! SUPPORT. What a latch takes and what a screen read needs, said once (R104, R106, R115). -/

namespace Sys2Proof.Machine

theorem State.viewAtLatch_eq (s : State) (c : Fin 2) : s.viewAtLatch c = s.latchView c := rfl

theorem State.map_resolvePane (s : State) (ps : List Pane) : ps.map s.resolvePane = s.fixPanes ps := rfl

/-- The pixels of a screen read, by their count from its first. -/
theorem ScreenRead.mem_sources (r : ScreenRead) (beats : Nat) (x : PixelSource) : x ∈ r.sources beats ↔
    ∃ k, k < 4 * beats ∧ pixelOf r.bg r.panes ((r.offset / 4 + k) % r.width) ((r.offset / 4 + k) / r.width) = x := by
  simp [ScreenRead.sources, readPixels]

/-- The needed blocks are those that some pixel takes its colour from (R104). -/
theorem mem_neededBlocks (src : List PixelSource) (n block : Nat) :
    (∃ b ∈ neededBlocks src, b.slot = n ∧ b.offset = block) ↔ ∃ j within dim, PixelSource.source j n block within dim ∈ src := by
  simp only [neededBlocks, List.mem_map, mem_distinct, List.mem_filterMap]
  constructor
  · rintro ⟨b, ⟨⟨n', b'⟩, ⟨x, hx, he⟩, rfl⟩, rfl, rfl⟩
    cases x with
    | flat c => cases he
    | source j m p w d => cases he; exact ⟨j, w, d, hx⟩
  · rintro ⟨j, w, d, h⟩
    exact ⟨⟨n, block, none⟩, ⟨(n, block), ⟨_, h, rfl⟩, rfl⟩, rfl, rfl⟩

/-- Each needed block stands once, and none has come yet. -/
theorem neededBlocks_fresh (src : List PixelSource) :
    ((neededBlocks src).map (fun b => (b.slot, b.offset))).Nodup ∧ ∀ b ∈ neededBlocks src, b.got = none := by
  refine ⟨?_, ?_⟩
  · simp only [neededBlocks, List.map_map]
    rw [show ((fun b : GatherBlock => (b.slot, b.offset)) ∘ fun x : Nat × Nat => ⟨x.1, x.2, none⟩) = id from rfl, List.map_id]
    exact nodup_distinct _
  · intro b hb
    simp only [neededBlocks, List.mem_map] at hb
    obtain ⟨x, -, rfl⟩ := hb
    rfl

end Sys2Proof.Machine
end

