-- ==== Sys2Proof/Tests/Slice0.lean ====
section
/-! SUPPORT. Tests: ill-formed terms are refused, the manual's worked examples, one or two effects of each command, and
for each statement states that meet its hypotheses. Expected results are the manual's own, or computed by hand from it;
each test's comment names the section. -/

open Sys2Proof Sys2Proof.Machine

namespace Sys2Proof.Tests

set_option Elab.async false

/-! ### Small states -/

/-- The next state of an outcome. -/
def after (o : Host.Outcome State Fault Refusal) : State :=
  match o with
  | .next t => t
  | _ => State.reset

/-- What exec answers, as a word. -/
def isRefused (o : Host.Outcome State Fault Refusal) (r : Refusal) : Bool :=
  match o with
  | .refused x => decide (x = r)
  | _ => false

/-- The response buffer after a command. -/
def answer (c : Instr) (s : State) : Buffer := (after (exec c s)).port.buffer

/-- A door camera of door 2: 320 × 240, so a frame of 307,264 bytes in a window of 311,296. -/
def camera : StreamConfig where
  role := .door
  door := 2
  identity := 0x0103
  w := 320
  h := 240
  base := 0x1000000
  slotList := [0, 1, 2, 3]
  ageLimit := 200
  mirror := false
  exRows := 0
  exCols := 0
  enabled := true

/-- The configuration of the tests in PASS: stream 3 the camera, screen S0, six slots of 311,296 bytes. -/
def configured : State :=
  { State.reset with
    streams := modAt State.reset.streams 3 (fun st => { st with cfg := camera })
    pool := SlotPool.rebuild 0x4000000 0x3000000 311296 6
    comp := { State.reset.comp with
      screens := modAt State.reset.comp.screens 0 (fun x => { x with isSet := true, base := 0x2000000 }) } }

/-- That configuration in ACTIVE. -/
def active : State :=
  { configured with
    pool := configured.pool.committed configured.streams
    transit := { configured.transit with
      mode := .active
      windows := [⟨.capture 3, 0x1000000, 311296⟩, ⟨.screen 0, 0x2000000, 307200⟩, ⟨.review, 0x3000000, 311296⟩,
        ⟨.pool, 0x4000000, 1867776⟩] } }

/-- Slot 0 the CURRENT slot of stream 3, which is LIVE. -/
def live : State :=
  { active with
    pool := { active.pool with
      slots := active.pool.slots.set 0 ⟨.current, some 3, true, 7, 307264, 5, 9, true, false, 0, none⟩
      free := [1, 2, 3, 4, 5]
      content := modAt active.pool.content 3 (fun _ => [0]) }
    streams := modAt active.streams 3 (fun st => { st with
      cap := { st.cap with freshness := .live, timer := some 205, lastSeq := some 7 } }) }

/-- A frame of stream 3 that has taken its first 4,096 bytes, in slot 1. -/
def frame : Filling := ⟨1, 4096, 307264, 0x0103, 8, false, false, false, false, BitVec.allOnes 32⟩

/-- `live` with that frame in progress. -/
def filling (f : Filling) (awaiting : Nat) : State :=
  { live with
    pool := { live.pool with
      slots := live.pool.slots.set 1 ⟨.filling, some 3, false, 0, 0, 0, 0, false, false, 0, none⟩
      free := [2, 3, 4, 5] }
    streams := modAt live.streams 3 (fun st => { st with cap := { st.cap with fill := some f, awaiting := awaiting } }) }

/-- A write of one beat to stream 3's window at an offset, every strobe set. -/
def writeAt (offset : Nat) (d : Line) : WriteReq :=
  ⟨1, BitVec.ofNat 36 (0x1000000 + offset), .incrementing, [⟨BitVec.allOnes 16, d⟩]⟩

/-- A read of n beats at an address. -/
def readAt (a n : Nat) : ReadReq := ⟨2, BitVec.ofNat 36 a, .incrementing, n⟩

/-- A state with one issued downstream request. -/
def issued (s : State) (r : DownReq) : State := { s with transit := { s.transit with downIssued := [r] } }

/-- A state with one read in flight. -/
def reading (s : State) (x : ReadTxn) : State := { s with transit := { s.transit with reads := [x] } }

/-- A state with one write in flight. -/
def writing (s : State) (x : WriteTxn) : State := { s with transit := { s.transit with writes := [x] } }

/-- The end of a frame of stream 3: one steered write awaits its response. -/
def finishing (f : Filling) : State :=
  writing (issued (filling { f with endMark := true } 1) ⟨.steeredWrite 0 3, .write, 1, 0, .incrementing, 1, [], 1⟩)
    ⟨0, writeAt 307248 0, .steered 3, true, none⟩

/-- Line l debounced high. -/
def raised (s : State) (l : Fin 15) : State :=
  { s with lines := { s.lines with lines := modAt s.lines.lines l (fun _ => ⟨true, true, 0⟩) } }

/-- Line l two samples into a change. -/
def pending2 (s : State) (l : Fin 15) : State :=
  { s with lines := { s.lines with lines := modAt s.lines.lines l (fun r => { r with run := 2 }) } }

/-- A group that holds slot 0 of stream 3. -/
def group : Group := ⟨1, .command, 3, 4, [0], 1⟩

/-- `live` with that group. -/
def held : State :=
  { live with
    pool := { live.pool with slots := live.pool.slots.set 0 ⟨.current, some 3, true, 7, 307264, 5, 9, true, false, 0, some 1⟩ }
    holds := { live.holds with groups := [group] } }

/-- A notice record. -/
def note (k : Kind) (subject : Nat) : Notice := ⟨k, subject, 12, 3, 1, 0⟩

/-- A state whose notice queue holds some records. -/
def noted (s : State) (l : List Notice) : State := { s with notices := { s.notices with records := l } }

/-- A pane of stream 3 at (0, 0), the whole frame. -/
def pane : Pane := ⟨3, 0, 0, 320, 240, 1, 0, 0, false, true⟩

/-- `live` with layout 0 showing that pane on screen S0. -/
def showing : State :=
  { live with comp := { live.comp with layouts := modAt live.comp.layouts 0 (fun _ => ⟨⟨0, 0, 48⟩, [pane]⟩) } }

/-- The open frame of S0, latched at 0 with one read of it in flight. -/
def openFrame : ScreenFrame :=
  ⟨false, .requested, some 0, ⟨0, 0, 48⟩, [⟨pane, 320, 240, some 0, .none⟩], 0, false, 1, 1, some 100⟩

/-- `live` with a screen frame on S0. -/
def onScreen (f : ScreenFrame) : State :=
  { live with comp := { live.comp with screens := modAt live.comp.screens 0 (fun x => { x with frame := some f }) } }

/-- A tile and a lens of the evaluation tests. -/
def sharp (b p : Nat) : Tile := ⟨.sharp, 8, b, p, 0, 0⟩

/-- A record whose mean luma is 100, tile 0 with the given sums. -/
def record (edge grad : Nat) : FrameRecord :=
  ⟨3, 8, modAt (Vector.replicate 48 0) 0 (fun _ => edge), modAt (Vector.replicate 48 0) 0 (fun _ => grad), 7680000, 76800⟩

/-- Stream 3 with every tile SHARP at B = 8,000 and counter 2, its lens CLEAN. -/
def judged : Stream :=
  { live.streams[(3 : Fin 16)] with
    tiles := Vector.replicate 48 (sharp 8000 2)
    lens := { Lens.reset with state := .clean } }

/-- `live` with a record of stream 3 in evaluation. -/
def evaluating (r : FrameRecord) (discard : Bool) : State :=
  { live with evals := { live.evals with current := some ⟨r, discard⟩ } }

/-! ### Terms that are no event of the manual -/

theorem test_wf_no_beats : (Instr.upstreamReadAccepted (readAt 0 0)).wf = false := by decide
theorem test_wf_many_beats : (Instr.upstreamReadAccepted (readAt 0 17)).wf = false := by decide
theorem test_wf_write_no_beats : (Instr.upstreamWriteAccepted ⟨0, 0, .incrementing, []⟩).wf = false := by decide
theorem test_wf_empty_response : (Instr.response 0).wf = false := by decide
theorem test_wf_known_code : (Instr.unknownCommand 0x46).wf = false := by decide
theorem test_refused_beats : isRefused (exec (.upstreamReadAccepted (readAt 0 17)) active) .notATransaction = true := by
  decide +kernel
theorem test_refused_write : isRefused (exec (.upstreamWriteAccepted ⟨0, 0, .wrapping, []⟩) active) .notATransaction = true := by
  decide +kernel
theorem test_refused_response : isRefused (exec (.response 0) active) .notAFrame = true := by decide +kernel
theorem test_refused_code : isRefused (exec (.unknownCommand 0x46) active) .codeIsKnown = true := by decide +kernel

/-! ### The manual's worked examples -/

/-- The map of section 1.5. -/
def map15 : List Window :=
  [⟨.capture 0, 0x10000000, 0x385000⟩, ⟨.screen 0, 0x20000000, 4096000⟩, ⟨.review, 0x30000000, 0x385000⟩,
    ⟨.pool, 0x40000000, 44285952⟩]

-- Section 1.5, line by line.
theorem test_decode_capture : decodeAccess map15 0x385000 0x10000000 .incrementing 16 = .capture 0 0 := by decide +kernel
theorem test_decode_runs_out : decodeAccess map15 0x385000 0x10384F80 .incrementing 16 = .split := by decide +kernel
theorem test_decode_runs_in : decodeAccess map15 0x385000 0x0FFFFFC0 .incrementing 8 = .split := by decide +kernel
theorem test_decode_guard : decodeAccess map15 0x385000 0x40001008 .incrementing 1 = .guardHit 0 := by decide +kernel
theorem test_decode_wrapping : decodeAccess map15 0x385000 0x20000040 .wrapping 4 = .refused := by decide +kernel
theorem test_decode_misaligned : decodeAccess map15 0x385000 0x20000008 .incrementing 2 = .refused := by decide +kernel
theorem test_decode_plain : decodeAccess map15 0x385000 0x0FFFFF08 .incrementing 4 = .plain := by decide +kernel
theorem test_decode_plain_wrapping : decodeAccess map15 0x385000 0x0FFFFFF0 .wrapping 4 = .plain := by decide +kernel
theorem test_decode_past_top : decodeAccess map15 0x385000 0xFFFFFFFF0 .incrementing 2 = .split := by decide +kernel

/-- Section 1.2: the extent of a 1280 × 720 window is 901 × 4,096. -/
theorem test_window_extent : roundUp4K (frameSizeOf 1280 720) = 3690496 := by decide +kernel

/-- R38: the check value of the signature over the nine bytes of "123456789", by the model and by the statements' own step. -/
theorem test_signature :
    ~~~ ([0x31, 0x32, 0x33, 0x34, 0x35, 0x36, 0x37, 0x38, 0x39].foldl crcByte (BitVec.allOnes 32)) = 0xCBF43926#32 := by
  decide +kernel
theorem test_signature_stated :
    ~~~ ([0x31, 0x32, 0x33, 0x34, 0x35, 0x36, 0x37, 0x38, 0x39].foldl
      (fun v (b : Byte) => shiftedOut 8 (v ^^^ b.setWidth 32)) (BitVec.allOnes 32)) = 0xCBF43926#32 := by
  decide +kernel

-- Section 4.3.
theorem test_luma_orange : lumaOf 200 100 50 = 124 := by decide
theorem test_luma_white : lumaOf 255 255 255 = 255 := by decide
-- Section 4.4: the pixel at (1,499, 999) of a 1500 × 1000 frame lies in tile (7, 5).
theorem test_tile_corner : tileOf 187 166 1499 999 = 47 := by decide
theorem test_tile_row : tileOf 187 166 1400 829 = 39 := by decide

-- Section 5.11: tile 11 blurs, tile 12 adapts.
theorem test_tile_blurs : (sharp 8000 2).evaluate Soiling.reset 268800 19200 = ⟨.blurred, 8, 8000, 0, 3584, 114⟩ := by
  decide +kernel
theorem test_tile_adapts : (sharp 8000 0).classify Soiling.reset 7900 = ⟨.sharp, 8, 7996, 0, 0, 252⟩ := by decide +kernel
-- Section 5.10: frames 2, 6 and 7, with L = 4.
theorem test_learning_mean :
    (⟨.learning, 1, 3600, 0, 0, 0⟩ : Tile).learnSample { Soiling.reset with learn := 4 } 3500 = ⟨.learning, 2, 3550, 0, 0, 0⟩ := by
  decide +kernel
theorem test_learning_ends :
    (⟨.learning, 3, 3601, 0, 0, 0⟩ : Tile).learnSample { Soiling.reset with learn := 4 } 3590 = ⟨.sharp, 4, 3599, 0, 0, 0⟩ := by
  decide +kernel
theorem test_first_ratio : (sharp 3599 0).classify Soiling.reset 3420 = ⟨.sharp, 8, 3593, 0, 0, 243⟩ := by decide +kernel
-- Section 5.12: frames 501, 502, 503, 505 and 507.
theorem test_lens_suspect : lensAfter Soiling.reset .clean 76 = .suspect := by decide
theorem test_lens_soiled : lensAfter Soiling.reset .suspect 102 = .soiled := by decide
theorem test_lens_stays : lensAfter Soiling.reset .soiled 83 = .soiled := by decide
theorem test_lens_falls : lensAfter Soiling.reset .soiled 76 = .suspect := by decide
theorem test_lens_clean : lensAfter Soiling.reset .suspect 44 = .clean := by decide

-- Section 8.5.
theorem test_fit_2 : fitFrame 640 400 1280 720 = ⟨2, 0, 0, 1280, 720⟩ := by decide +kernel
theorem test_fit_trim : fitFrame 640 400 1284 725 = ⟨3, 0, 0, 1284, 723⟩ := by decide +kernel
theorem test_fit_4 : fitFrame 341 384 1280 720 = ⟨4, 0, 0, 1280, 720⟩ := by decide +kernel
theorem test_fit_centre : fitFrame 341 384 2048 1536 = ⟨4, 342, 0, 1364, 1536⟩ := by decide +kernel
theorem test_fit_whole : fitFrame 1280 800 1280 720 = ⟨1, 0, 0, 1280, 720⟩ := by decide +kernel

/-- The panes of section 6.4. -/
def panes64 : List ViewPane :=
  [⟨⟨4, 0, 0, 1280, 720, 2, 0, 0, true, false⟩, 1280, 720, some 8, .none⟩,
    ⟨⟨2, 320, 180, 640, 360, 1, 320, 200, false, false⟩, 1280, 720, some 9, .none⟩]

-- Section 6.4: the pane on top, the mirrored pane, the background.
theorem test_pixel_top : pixelOf ⟨0, 0, 48⟩ panes64 636 250 = .source 1 9 1180208 0 false := by decide +kernel
theorem test_pixel_mirrored : pixelOf ⟨0, 0, 48⟩ panes64 636 100 = .source 0 8 1024080 8 false := by decide +kernel
theorem test_pixel_background : pixelOf ⟨0, 0, 48⟩ panes64 0 700 = .flat ⟨0, 0, 48⟩ := by decide +kernel
-- Sections 7.2, 7.3 and 7.5.
theorem test_checker : (checker 4 9, checker 8 9) = (⟨32, 32, 32⟩, ⟨0, 0, 0⟩) := by decide
/-- The pane of section 7.5. -/
def pane75 (o : Overlay) : ViewPane := ⟨⟨3, 0, 0, 640, 360, 1, 640, 20, false, true⟩, 1280, 720, some 5, o⟩
theorem test_stripe : pixelOf ⟨0, 0, 0⟩ [pane75 .stale] 700 100 = .flat ⟨128, 128, 128⟩ := by decide +kernel
theorem test_badge_border : pixelOf ⟨0, 0, 0⟩ [pane75 .badgeSoiled] 645 30 = .flat ⟨0, 0, 0⟩ := by decide +kernel
theorem test_badge_fill : pixelOf ⟨0, 0, 0⟩ [pane75 .badgeSoiled] 646 30 = .flat ⟨255, 160, 0⟩ := by decide +kernel

-- Section 10.6: the merge at 5, and the linger of the first record.
theorem test_notice_merges :
    ((noted active [note .gatherFault 0]).notices.take 5 .gatherFault 0 14).records
      = [{ note .gatherFault 0 with repeats := 2 }] := by decide +kernel
theorem test_notice_starts_linger : (active.notices.take 3 .gatherFault 0 12).timer = some 23 := by decide +kernel
-- Section 10.7: a full queue merges, and discards.
theorem test_notice_full_merges :
    ((noted active (List.replicate 31 (note .holdMade 1) ++ [note .evalSkipped 4])).notices.take 9 .evalSkipped 4 0).lost
      = 0 := by decide +kernel
theorem test_notice_full_discards :
    ((noted active (List.replicate 31 (note .holdMade 1) ++ [note .evalSkipped 4])).notices.take 9 .holdMade 2 0).lost
      = 1 := by decide +kernel

/-! ### One or two effects of each command -/

-- R12: in PASS even an address in the pool is forwarded; R8: in ACTIVE it is a guard hit of slot 1.
theorem test_read_pass :
    ((after (exec (.upstreamReadAccepted (readAt 0x4000008 2)) configured)).transit.downWaiting.map DownReq.addr)
      = [0x4000008] := by decide +kernel
theorem test_read_guard :
    ((after (exec (.upstreamReadAccepted (readAt 0x404C000 1)) active)).notices.records.map Notice.value) = [1] := by
  decide +kernel
-- R24, R21, R62: a start write takes slot 1 and the header's sequence; the tiles of 320 × 240 are 40 × 40.
theorem test_write_starts_frame :
    (fun (a : Accumulators) => (a.state, a.w, a.h, a.tw, a.th))
      ((after (exec (.upstreamWriteAccepted (writeAt 0 0x00080103)) live)).stream 3).acc = (.collecting, 320, 240, 40, 40) ∧
    ((after (exec (.upstreamWriteAccepted (writeAt 0 0x00080103)) live)).stream 3).cap.fill.map
      (fun f => (f.slot, f.identity, f.sequence, f.offset)) = some (1, 0x0103, 8, 16) := by decide +kernel
-- R29: a write 16 bytes ahead of the running offset is out of order.
theorem test_write_disorders :
    ((after (exec (.upstreamWriteAccepted (writeAt 4112 0)) (filling frame 0))).notices.records.map
      (fun r => (r.kind, r.value))) = [(.frameDisordered, 8)] := by decide +kernel
theorem test_write_data_taken :
    (after (exec .writeDataTaken (writing active ⟨0, writeAt 0 0, .absorbed, false, some .okay⟩))).transit.writes.map
      WriteTxn.dataTaken = [true] := by decide +kernel
-- R53: the pin of a capture-window read is dropped at its return.
theorem test_answer_returned :
    ((after (exec (.answerReturned .read 2) (reading { live with pool := live.pool.pin 0 }
      ⟨0, readAt 0x1000000 1, .capture 0 0 307264, [⟨5, .okay⟩]⟩))).pool.record 0).pins = 0 := by decide +kernel
theorem test_request_issued :
    (after (exec .downstreamRequestIssued { active with transit := { active.transit with
      downWaiting := [⟨.forwardedRead 0, .read, 2, 16, .incrementing, 1, [], 1⟩] } })).transit.downIssued.length = 1 := by
  decide +kernel
theorem test_forwarded_read_beat :
    (after (exec (.forwardedReadBeat (.sinceReset 2) ⟨7, .error⟩) (reading (issued active
      ⟨.forwardedRead 0, .read, 2, 16, .incrementing, 1, [], 1⟩) ⟨0, readAt 16 1, .forwarded, []⟩))).transit.reads.map
        ReadTxn.beats = [[⟨7, .error⟩]] := by decide +kernel
-- R16: an answer of a transaction issued before a reset is not given to the request of its kind and id issued since.
theorem test_answer_before_reset :
    (after (exec (.forwardedReadBeat (.beforeReset 2) ⟨7, .error⟩) (reading (issued active
      ⟨.forwardedRead 0, .read, 2, 16, .incrementing, 1, [], 1⟩) ⟨0, readAt 16 1, .forwarded, []⟩))).transit.reads.map
        ReadTxn.beats = [[]] := by decide +kernel
theorem test_forwarded_write_response :
    (after (exec (.forwardedWriteResponse (.sinceReset 1) .error) (writing (issued active
      ⟨.forwardedWrite 0, .write, 1, 16, .incrementing, 1, [], 1⟩) ⟨0, writeAt 0 0, .forwarded, true, none⟩))).transit.writes.map
        WriteTxn.response = [some .error] := by decide +kernel
-- R33, R36: the last response accepts the frame; R35: sequence 8 follows 7, so no notice.
theorem test_frame_accepted :
    ((after (exec (.steeredWriteResponse (.sinceReset 1) .okay) (finishing frame))).pool.slots.take 2).map
      (fun x => (x.life, x.sequence)) = [(.free, 7), (.current, 8)] := by decide +kernel
theorem test_frame_identity :
    ((after (exec (.steeredWriteResponse (.sinceReset 1) .okay) (finishing { frame with identity := 5 }))).notices.records.map
      (fun r => (r.kind, r.value))) = [(.frameLost, 4)] := by decide +kernel
-- R57, R157: a beat at the frame size is zero and OKAY.
theorem test_capture_beat :
    (after (exec (.captureReadBeat (.sinceReset 2) ⟨7, .error⟩) (reading (issued live
      ⟨.captureRead 0, .read, 2, 0, .incrementing, 2, [], 1⟩) ⟨0, readAt 0x104B030 2, .capture 0 307248 307264,
        [⟨9, .okay⟩]⟩))).transit.reads.map ReadTxn.beats = [[⟨9, .okay⟩, ⟨0, .okay⟩]] := by decide +kernel
theorem test_review_beat :
    (after (exec (.reviewReadBeat (.sinceReset 2) ⟨7, .error⟩) (reading (issued live
      ⟨.reviewRead 0, .read, 2, 0, .incrementing, 1, [], 1⟩) ⟨0, readAt 0x3000000 1, .review 0 0 307264 0 true,
        []⟩))).transit.reads.map ReadTxn.beats = [[⟨7, .error⟩]] := by decide +kernel
-- R111: a gather fault names the slot.
theorem test_gather_fault :
    (after (exec (.gatherReadBeat (.sinceReset 0) ⟨7, .error⟩) (reading (issued live
      ⟨.gather 0 4 64, .read, 9, 0, .incrementing, 1, [], 1⟩) ⟨0, readAt 0x2000000 1,
        .screen ⟨0, 0, 320, ⟨0, 0, 0⟩, [], [⟨4, 64, none⟩], true, []⟩, []⟩))).notices.records.map
          (fun r => (r.kind, r.subject, r.value)) = [(.gatherFault, 0, 4)] := by decide +kernel
-- R182: the last response of the last stream ends the dump.
theorem test_dump_done :
    (after (exec (.dumpWriteResponse (.sinceReset 0) .okay) (issued { live with port := { live.port with
      dump := some ⟨3, 3, 0, 3, some [], 1, false, 0⟩ } } ⟨.dump false, .write, 9, 0, .incrementing, 9, [], 1⟩))).notices.records.map
        (fun r => (r.kind, r.subject, r.value)) = [(.dumpDone, 0, 1)] := by decide +kernel
theorem test_reset_asserted : (after (exec .resetNAsserted (filling frame 2))).stream 3 |>.cap.fill.isNone := by
  decide +kernel
theorem test_reset_released :
    (after (exec .resetNReleased (after (exec .resetNAsserted live)))).pool = SlotPool.reset := by decide +kernel
-- R129, R132: the third high sample opens door 2.
theorem test_door_opens :
    (after (exec (.partTimeStep 4 []) (pending2 live 2))).lines.sides[(0 : Fin 2)].kept = [2] := by decide +kernel
-- R144: the door of a LIVE stream is seen.
theorem test_door_seen : (after (exec (.partTimeStep 4 []) (pending2 live 2))).notices.records = [] := by decide +kernel
theorem test_freshness_expires :
    ((after (exec (.freshnessTimerExpiry 3) { live with time := 205 })).stream 3).cap.freshness = .stale := by
  decide +kernel
theorem test_freshness_not_due :
    ((after (exec (.freshnessTimerExpiry 3) { live with time := 204 })).stream 3).cap.freshness = .live
    ∧ ((after (exec (.freshnessTimerExpiry 3) { live with time := 206 })).stream 3).cap.freshness = .live := by
  decide +kernel
/-- `pending2 live 2` with the lower side lingering to a value of part time. -/
def lingering (e : Time) : State :=
  { pending2 live 2 with lines := { (pending2 live 2).lines with
      sides := modAt (pending2 live 2).lines.sides 0 (fun _ => ⟨some e, [1, 4]⟩) } }
-- R132: an opening and the expiry of its side in one millisecond, in both orders.
theorem test_opening_first :
    (after (exec (.partTimeStep 4 [.line 2, .linger 0]) (lingering 1))).lines.sides[(0 : Fin 2)] = ⟨none, [1, 2, 4]⟩ := by
  decide +kernel
theorem test_expiry_first :
    (after (exec (.partTimeStep 4 [.linger 0, .line 2]) (lingering 1))).lines.sides[(0 : Fin 2)] = ⟨none, [2]⟩ := by
  decide +kernel
-- R184, R39: an expiry left over at 205 is taken at 205, not stepped past.
theorem test_expiry_not_stepped_past :
    (after (exec (.partTimeStep 0 []) { live with time := 205 })).notices.records.map (fun r => (r.kind, r.stamp))
      = [(.streamStale, 205)] := by decide +kernel
-- R88: a judged lens of 48 tiles with 1 blurred stays CLEAN, f = floor(256 / 48) = 5.
theorem test_evaluation_completes :
    ((after (exec .evaluationCompletion { evaluating (record 268800 19200) false with
      streams := modAt live.streams 3 (fun _ => judged) })).stream 3).lens.fraction = 5 := by decide +kernel
theorem test_screen_timeout :
    (after (exec (.screenFrameTimerExpiry 0) { onScreen openFrame with time := 100 })).notices.records.map
      (fun r => (r.kind, r.value)) = [(.screenTimeout, 1)] := by decide +kernel
theorem test_linger_expires :
    (after (exec (.lingerTimerExpiry 0) { live with lines := { live.lines with
      sides := modAt live.lines.sides 0 (fun _ => ⟨some 0, [2, 4]⟩) } })).lines.sides[(0 : Fin 2)].kept = [] := by
  decide +kernel
theorem test_notice_linger :
    (after (exec .noticeLingerExpiry { noted live [note .streamStale 2] with
      notices := { (noted live [note .streamStale 2]).notices with timer := some 0, trigger := 4 } })).notices.asserted
        = true := by decide +kernel
-- R174: a frame one byte short of the data leaves the response in place.
theorem test_response_whole :
    answer (.response 4) { active with port := { active.port with buffer := .ready .done [7] } } = .empty := by
  decide +kernel
theorem test_response_short :
    answer (.response 3) { active with port := { active.port with buffer := .ready .done [7] } } = .ready .done [7] := by
  decide +kernel
theorem test_empty_frame : answer .emptyFrame { active with port := { active.port with buffer := .ready .done [7] } }
    = .ready .done [7] := by decide +kernel
theorem test_unknown_command : answer (.unknownCommand 0x47) active = .ready .badCode [] := by decide +kernel
-- R176: 12 slots of 385000 hexadecimal bytes at 40000000, the review aperture at 30000000.
theorem test_set_pool :
    (after (exec (.setPool [15, 0, 0, 0, 0x40, 0, 0, 0, 0, 0x30, 0, 0, 0x50, 0x38, 0, 12]) State.reset)).pool.free
      = List.range 12 := by decide +kernel
theorem test_set_pool_active :
    answer (.setPool [15, 0, 0, 0, 0x40, 0, 0, 0, 0, 0x30, 0, 0, 0x50, 0x38, 0, 12]) active = .ready .state [] := by
  decide +kernel
-- R177: the 27 bytes of the camera, and an age limit of 5 clamped to 20.
theorem test_set_stream :
    (after (exec (.setStream [27, 3, 1, 2, 3, 1, 0x40, 1, 0xF0, 0, 0, 0, 0, 1, 0, 4, 0, 1, 2, 3, 0, 0, 200, 0, 0, 0, 0, 1])
      State.reset)).streams[(3 : Fin 16)].cfg = camera := by decide +kernel
theorem test_set_stream_clamps :
    answer (.setStream [27, 3, 1, 2, 3, 1, 0x40, 1, 0xF0, 0, 0, 0, 0, 1, 0, 4, 0, 1, 2, 3, 0, 0, 5, 0, 0, 0, 0, 1])
      State.reset = .ready .done [20, 0] := by decide +kernel
theorem test_enable_stream : answer (.enableStream [1, 4]) active = .ready .state [] := by decide +kernel
-- R20: the slot of an abandoned frame is kept while a write awaits.
theorem test_disable_stream :
    ((after (exec (.disableStream [1, 3]) (filling frame 2))).stream 3).cap.abandoned = some 1 := by decide +kernel
theorem test_set_screen :
    answer (.setScreen [12, 1, 0, 0, 0, 0x50, 0, 0, 5, 0x20, 3, 1, 0]) State.reset = .ready .done [20, 0] := by
  decide +kernel
theorem test_set_layout :
    (after (exec (.setLayout [20, 2, 9, 8, 7, 1, 3, 0, 0, 0, 0, 0x40, 1, 0xF0, 0, 1, 0, 0, 0, 0, 2]) configured)).comp.layouts[(2 : Fin 16)]
      = ⟨⟨9, 8, 7⟩, [pane]⟩ := by decide +kernel
-- R99; and R98 before it: a crop one column past the frame, and a stream above 15.
theorem test_set_layout_refused :
    answer (.setLayout [5, 0, 0, 0, 0, 0]) (onScreen openFrame) = .ready .inUse []
    ∧ ∀ p ∈ [({ pane with sx := 1 } : Pane).parameters, (16 : Byte) :: pane.parameters.drop 1],
      answer (.setLayout (frameOf ([0, 0, 0, 0, 1] ++ p))) (onScreen openFrame) = .ready .badParam [] := by decide +kernel
theorem test_select_layout : (after (exec (.selectLayout [2, 1, 15]) active)).comp.screens[(1 : Fin 2)].requested = 15 := by
  decide +kernel
theorem test_set_door_view : answer (.setDoorView [3, 1, 0xFF, 0xFF]) active = .ready .done [0x30, 0x75] := by decide +kernel
theorem test_set_door_view_open : answer (.setDoorView [3, 0, 0, 0]) (raised active 5) = .ready .doorsOpen [] := by
  decide +kernel
theorem test_set_reverse_view : (after (exec (.setReverseView [2, 1, 0]) active)).lines.preferred = 0 := by decide +kernel
theorem test_set_soiling :
    answer (.setSoiling [15, 0x80, 0, 0xC0, 0, 0, 16, 3, 9, 64, 0, 80, 0, 24, 232, 5]) active
      = .ready .done [0x80, 0, 0xC0, 0, 1, 15, 4, 8, 64, 0, 80, 0, 24, 232, 1] := by decide +kernel
theorem test_set_soiling_levels :
    answer (.setSoiling [15, 0x80, 0, 0xC0, 0, 3, 3, 8, 5, 64, 0, 79, 0, 24, 232, 1]) active = .ready .badParam [] := by
  decide +kernel
theorem test_set_hold : answer (.setHold [2, 9, 9]) active = .ready .done [4, 3] := by decide +kernel
theorem test_set_notice :
    answer (.setNotice [7, 0, 0xFF, 0xFF, 0xFF, 0xFF, 0xFF, 0xFF]) active
      = .ready .done [1, 0xE8, 3, 0xFF, 0xFF, 0x1F, 0] := by decide +kernel
theorem test_set_notice_mask :
    answer (.setNoticeMask [8, 0, 0, 0, 0, 0, 8, 0, 0]) active = .ready .done [0xFF, 0xF7, 0x1F, 0] := by decide +kernel
-- R178: COMMIT builds the map; with the pool not set it answers STATE, FF, FF.
theorem test_commit : (after (exec (.commit [0]) configured)).transit.windows = active.transit.windows := by decide +kernel
theorem test_commit_no_pool : answer (.commit [0]) State.reset = .ready .state [0xFF, 0xFF] := by decide +kernel
theorem test_return_to_pass : (after (exec (.returnToPass [0]) live)).transit.mode = .pass := by decide +kernel
theorem test_return_holds : answer (.returnToPass [0]) held = .ready .holdsPresent [] := by decide +kernel
theorem test_soft_reset : (after (exec (.softReset [0]) { held with time := 9 })).time = 0 := by decide +kernel
theorem test_soft_reset_waits :
    answer (.softReset [0]) (reading live ⟨0, readAt 16 1, .forwarded, []⟩) = .pending .softReset := by decide +kernel
theorem test_reset_baseline :
    (after (exec (.resetBaseline [1, 3]) (evaluating (record 0 0) false))).evals.current = some ⟨record 0 0, true⟩ := by
  decide +kernel
-- R150: one candidate for a pre count of 2: HOLD_MADE 256 × 3 + 1, then HOLD_CLAMPED 1.
theorem test_hold :
    (after (exec (.hold [3, 3, 2, 0]) live)).notices.records.map (fun r => (r.kind, r.value))
      = [(.holdMade, 769), (.holdClamped, 1)] := by decide +kernel
theorem test_hold_limit : answer (.hold [3, 4, 2, 0]) live = .ready .limit [] := by decide +kernel
theorem test_release : answer (.release [1, 1]) held = .ready .done [1] := by decide +kernel
theorem test_release_not_found : answer (.release [1, 9]) held = .ready .notFound [] := by decide +kernel
theorem test_review : answer (.review [3, 1, 0, 1]) held = .ready .done [0, 7, 0, 0x40, 0xB0, 4, 0] := by decide +kernel
theorem test_review_index : answer (.review [3, 1, 1, 1]) held = .ready .badParam [] := by decide +kernel
-- R181: a destination on the pool is refused.
theorem test_dump_tiles :
    (after (exec (.dumpTiles [7, 3, 4, 0, 0, 0, 0x50, 0]) live)).transit.downWaiting.map (fun r => (r.addr, r.beats))
      = [(0x50000000, 16), (0x50000100, 9)] := by decide +kernel
theorem test_dump_on_pool : answer (.dumpTiles [7, 3, 4, 0, 0, 0, 4, 0]) live = .ready .badAddress [] := by decide +kernel
theorem test_take_notices :
    answer (.takeNotices [1, 0]) (noted live [note .holdMade 1, note .streamStale 2])
      = .ready .done [1, 15, 1, 12, 0, 3, 0, 0, 0, 1, 0] := by decide +kernel
theorem test_notice_level :
    answer (.noticeLevel [0]) (noted live [note .doorBlind 1]) = .ready .done [1, 0, 0, 5] := by decide +kernel
theorem test_read_stream_status :
    answer (.readStreamStatus [2, 3, 4]) live = .ready .badParam [] := by decide +kernel
theorem test_read_screen_status :
    (after (exec (.readScreenStatus [1, 0]) live)).port.buffer = .ready .done (live.screenStatus 0)
      ∧ (live.screenStatus 0).take 12 = [1, 0, 0, 0, 2, 0, 0x40, 1, 0xF0, 0, 100, 0] := by decide +kernel
theorem test_read_holds :
    answer (.readHolds [0]) held = .ready .done [1, 3, 2, 0xFF, 0, 0xFF, 0, 1, 1, 1, 3, 4, 0, 0, 0, 1,
      1, 0, 7, 0, 5, 0, 0, 0, 9, 0, 0, 0, 1, 0] := by decide +kernel
theorem test_read_lines : (live.lineStatus.drop 45).take 8 = [0, 0, 0, 0, 0, 0, 0, 0] := by decide +kernel
-- R180: part code 7A16, revision 1, PASS, none, pool set.
theorem test_read_part : answer (.readPart [0]) configured = .ready .done [0x16, 0x7A, 1, 0, 0, 1] := by decide +kernel

/-! ### The queue, and the host's two functions -/

theorem test_step_idles : (after (step live)).time = live.time ∧ (after (step live)).pending = [] := by decide +kernel
theorem test_step_front :
    (after (step { live with pending := [.emptyFrame, .readPart [0]] })).pending = [.readPart [0]] := by decide +kernel
theorem test_no_word_spells_a_command : decodeTableWord 32 0x46 = none := by decide
theorem test_fetch_word_changes_nothing : (live.withFetchWord 32 0x46).pending = live.pending := by decide +kernel

/-! ### States that meet the hypotheses of the statements -/

theorem hears_of (s : State) (h : s.inReset = false) (hb : s.port.buffer = .empty) : s.hears :=
  ⟨h, fun c => by rw [hb]; exact nofun⟩

theorem admits_read_of (s : State) (h : s.inReset = false) (hm : s.transit.mode ≠ .draining) (hw : s.transit.waiting = [])
    (hn : s.transit.reads.length < 32) : s.admits .read :=
  ⟨h, hm, fun x hx => by rw [hw] at hx; exact absurd hx (by simp), hn⟩

theorem admits_write_of (s : State) (h : s.inReset = false) (hm : s.transit.mode ≠ .draining) (hw : s.transit.waiting = [])
    (hn : s.transit.writes.length < 32) : s.admits .write :=
  ⟨h, hm, fun x hx => by rw [hw] at hx; exact absurd hx (by simp), hn⟩

/-- A free list is exact when a check of every slot and of every entry says so. -/
theorem exact_of (p : SlotPool) (h : p.free.Nodup)
    (h1 : ∀ n ∈ List.range p.slots.length, n ∈ p.free ↔ (p.slots[n]?.map Slot.available) = some true)
    (h2 : ∀ n ∈ p.free, n < p.slots.length) : p.FreeListExact := by
  have reads : ∀ n : Nat, (p.slots[n]?.map Slot.available) = some true ↔
      ∃ x, p.slots[n]? = some x ∧ x.life = .free ∧ x.pins = 0 ∧ x.hold = none := by
    intro n
    cases p.slots[n]? <;> simp [Slot.available]
  refine ⟨h, fun n => ?_⟩
  by_cases hn : n < p.slots.length
  · rw [h1 n (List.mem_range.2 hn), reads]
  · constructor
    · exact fun hm => absurd (h2 n hm) hn
    · rintro ⟨x, hx, -⟩
      rw [List.getElem?_eq_none (by omega)] at hx
      exact absurd hx (by simp)

theorem live_admits_read : live.admits .read :=
  admits_read_of _ (by decide +kernel) (by decide +kernel) (by decide +kernel) (by decide +kernel)
theorem live_admits_write : live.admits .write :=
  admits_write_of _ (by decide +kernel) (by decide +kernel) (by decide +kernel) (by decide +kernel)
theorem filling_admits_write : (filling frame 0).admits .write :=
  admits_write_of _ (by decide +kernel) (by decide +kernel) (by decide +kernel) (by decide +kernel)
theorem live_hears : live.hears := hears_of _ (by decide +kernel) (by decide +kernel)
theorem configured_hears : configured.hears := hears_of _ (by decide +kernel) (by decide +kernel)

/-- n forwarded reads and n forwarded writes in flight. -/
def crowd (n : Nat) : State :=
  { live with transit := { live.transit with
      reads := (List.range n).map (fun k => ⟨k, readAt 16 1, .forwarded, []⟩)
      writes := (List.range n).map (fun k => ⟨100 + k, writeAt 0 0, .forwarded, false, none⟩)
      nextKey := 200 } }

/-- A drain from ACTIVE that waits for one read. -/
def draining (c : Change) : State :=
  { live with
    transit := { live.transit with
      mode := .draining, change := c, drainedFrom := .active, reads := [⟨0, readAt 16 1, .forwarded, []⟩], nextKey := 1 }
    port := { live.port with buffer := .pending c } }

/-- StepRunsTheFrontCommand: both kinds of queue. -/
theorem meets_step : live.pending = [] ∧ ({ live with pending := [.emptyFrame, .readPart [0]] } : State).pending
    = .emptyFrame :: [.readPart [0]] := by decide +kernel

/-- EveryEventIsTaken: terms of both kinds, at the two bounds of the beat count. -/
theorem meets_event : (Instr.upstreamReadAccepted (readAt 0 1)).wf = true
    ∧ (Instr.upstreamReadAccepted (readAt 0 16)).wf = true ∧ (Instr.upstreamReadAccepted (readAt 0 17)).wf = false := by
  decide

/-- PlainRequestsAreForwardedOrWait: in PASS, in ACTIVE with 31 in flight, with 32 in flight, and in DRAINING. -/
theorem meets_plain_read : (readAt 16 16).wf = true ∧ configured.admits .read ∧ configured.transit.mode = .pass
    ∧ (crowd 31).admits .read
    ∧ decodeAccess (crowd 31).transit.windows (crowd 31).pool.size (readAt 16 16).addr.toNat .incrementing 16 = .plain :=
  ⟨by decide, admits_read_of _ (by decide +kernel) (by decide +kernel) (by decide +kernel) (by decide +kernel),
    by decide +kernel, admits_read_of _ (by decide +kernel) (by decide +kernel) (by decide +kernel) (by decide +kernel),
    by decide +kernel⟩
theorem meets_plain_write : (⟨1, 16, .wrapping, [⟨0, 0⟩]⟩ : WriteReq).wf = true ∧ configured.admits .write
    ∧ configured.transit.mode = .pass ∧ (crowd 31).admits .write
    ∧ decodeAccess (crowd 31).transit.windows (crowd 31).pool.size 16 .wrapping 1 = .plain :=
  ⟨by decide, admits_write_of _ (by decide +kernel) (by decide +kernel) (by decide +kernel) (by decide +kernel),
    by decide +kernel, admits_write_of _ (by decide +kernel) (by decide +kernel) (by decide +kernel) (by decide +kernel),
    by decide +kernel⟩
theorem meets_waiting : (crowd 32).inReset = false ∧ 32 ≤ (crowd 32).transit.reads.length
    ∧ 32 ≤ (crowd 32).transit.writes.length ∧ (draining .softReset).inReset = false
    ∧ (draining .softReset).transit.mode = .draining := by decide +kernel

/-- DecodeTestsAreByteExact: a split access, and one of each other region. -/
theorem meets_decode : decodeAccess map15 0x385000 0x10384F80 .incrementing 16 = .split
    ∧ (decodeAccess map15 0x385000 0x10384F80 .incrementing 8 ≠ .split
      ∧ (regionOf map15 0x10384F80).map Window.kind = some (.capture 0))
    ∧ (decodeAccess map15 0x385000 0x40384FFF .incrementing 1 ≠ .split
      ∧ (regionOf map15 0x40384FFF).map Window.kind = some .pool)
    ∧ (decodeAccess map15 0x385000 0 .incrementing 1 ≠ .split ∧ regionOf map15 0 = none) := by decide +kernel

/-- DecodeTestsAreByteExact: an access that passes to each kind of window, the last byte of a window and the next. -/
theorem meets_decode_passes :
    (decodeAccess map15 0x385000 0x10384FF0 .incrementing 1 ≠ .split ∧ 0x10384FF0 % 16 = 0)
    ∧ (decodeAccess map15 0x385000 0x20000000 .incrementing 16 ≠ .split
      ∧ (regionOf map15 0x20000000).map Window.kind = some (.screen 0))
    ∧ (decodeAccess map15 0x385000 0x30000010 .incrementing 16 ≠ .split
      ∧ (regionOf map15 0x30000010).map Window.kind = some .review)
    ∧ (regionOf map15 0x10384FFF).map Window.kind = some (.capture 0) ∧ regionOf map15 0x10385000 = none := by decide +kernel

/-- RefusedRequestsAreAnsweredError: every answer of the decode the clauses name. -/
theorem meets_refused_read : (readAt 0 16).wf = true ∧ live.admits .read ∧ live.transit.mode = .active
    ∧ decodeAccess live.transit.windows live.pool.size 0xFFFFF0 .incrementing 2 = .split
    ∧ decodeAccess live.transit.windows live.pool.size 0x4000000 .incrementing 1 = .guardHit 0
    ∧ decodeAccess live.transit.windows live.pool.size 0x2000008 .incrementing 1 = .refused :=
  ⟨by decide, live_admits_read, by decide +kernel, by decide +kernel, by decide +kernel, by decide +kernel⟩
theorem meets_refused_write : (⟨1, 0, .incrementing, [⟨0, 0⟩, ⟨0, 0⟩]⟩ : WriteReq).wf = true ∧ live.admits .write
    ∧ live.transit.mode = .active
    ∧ decodeAccess live.transit.windows live.pool.size 0xFFFFF0 .incrementing 2 = .split
    ∧ decodeAccess live.transit.windows live.pool.size 0x41C7FFF .incrementing 1 = .guardHit 5
    ∧ decodeAccess live.transit.windows live.pool.size 0x1000000 .wrapping 1 = .refused
    ∧ decodeAccess live.transit.windows live.pool.size 0x2000000 .incrementing 2 = .screen 0 0
    ∧ decodeAccess live.transit.windows live.pool.size 0x3000010 .incrementing 2 = .review 16 :=
  ⟨by decide, live_admits_write, by decide +kernel, by decide +kernel, by decide +kernel, by decide +kernel,
    by decide +kernel, by decide +kernel⟩

/-- AnswersReturnInOrder: a write whose data are outstanding behind one whose data are taken. -/
theorem meets_data_taken : ∃ pre x post,
    (writing active ⟨0, writeAt 0 0, .absorbed, false, some .okay⟩).transit.writes = pre ++ x :: post
      ∧ (∀ y ∈ pre, y.dataTaken = true) ∧ x.dataTaken = false :=
  ⟨[], _, [], rfl, by simp, rfl⟩
/-- AnswersReturnInOrder: a read short of its last beat, and with it, behind a read of another id. -/
theorem meets_read_head (beats : List ReadBeat) (h : beats.length ≤ 2) : ∃ pre x post,
    ({ live with transit := { live.transit with reads := [⟨0, ⟨3, 16, .incrementing, 1⟩, .forwarded, []⟩,
      ⟨1, readAt 16 2, .forwarded, beats⟩] } } : State).transit.reads = pre ++ x :: post
      ∧ (∀ y ∈ pre, y.req.id ≠ 2) ∧ x.req.id = 2 ∧ (∀ r, x.service ≠ .screen r) ∧ x.beats.length ≤ x.req.beats
      ∧ live.transit.mode ≠ .draining ∧ live.transit.waiting = [] ∧ ∀ a b c d e, x.service ≠ .review a b c d e :=
  ⟨[_], _, [], rfl, by decide, rfl, fun _ => nofun, h, by decide +kernel, by decide +kernel, fun _ _ _ _ _ => nofun⟩
/-- AnswersReturnInOrder: a write with and without its response. -/
theorem meets_write_head (resp : Option Resp) (d : Bool) : ∃ pre x post,
    (writing live ⟨0, writeAt 0 0, .forwarded, d, resp⟩).transit.writes = pre ++ x :: post
      ∧ (∀ y ∈ pre, y.req.id ≠ 1) ∧ x.req.id = 1 ∧ x.response = resp ∧ x.dataTaken = d :=
  ⟨[], _, [], rfl, by simp, rfl, rfl, rfl⟩

/-- AnswersReturnInOrder: a drain whose last transaction has its answer, one of two that has, and a request that waits. -/
def drained (waiting : List PortReq) : State :=
  { draining .returnToPass with transit := { (draining .returnToPass).transit with
      reads := [⟨0, readAt 16 1, .forwarded, [⟨7, .okay⟩]⟩], waiting := waiting } }
theorem meets_drained (ws : List PortReq) : (drained ws).answerable .read 2
    ∧ (drained ws).transit.mode = .draining ∧ (drained ws).transit.change ≠ .none ∧ (drained ws).transit.waiting = ws
    ∧ (drained ws).transit.reads.length + (drained ws).transit.writes.length = 1 ∧ (drained ws).inReset = false :=
  ⟨⟨[], [], _, rfl, by simp, rfl, Nat.le_refl 1⟩, rfl, nofun, rfl, rfl, rfl⟩
theorem meets_drain_stands : (writing (drained []) ⟨1, writeAt 0 0, .absorbed, true, some .okay⟩).answerable .write 1
    ∧ 2 ≤ (writing (drained []) ⟨1, writeAt 0 0, .absorbed, true, some .okay⟩).transit.reads.length
      + (writing (drained []) ⟨1, writeAt 0 0, .absorbed, true, some .okay⟩).transit.writes.length :=
  ⟨⟨[], [], _, rfl, by simp, rfl, rfl, nofun⟩, Nat.le_refl 2⟩
/-- AnswersReturnInOrder: a drain of each change, with a group standing and a flag that is exact, whose last answer returns
outside the drain as well. -/
def discarding (c : Change) : State :=
  { drained [] with
    transit := { (drained []).transit with change := c }
    pool := held.pool
    holds := { held.holds with mapping := some ⟨4, 1, 0, 0, false⟩ } }
theorem meets_discard (c : Change) : (discarding c).answerable .read 2 ∧ (discarding c).transit.mode = .draining
    ∧ (discarding c).transit.change = c ∧ (discarding c).transit.waiting = [] ∧ (discarding c).inReset = false
    ∧ (discarding c).transit.reads.length + (discarding c).transit.writes.length = 1 ∧ (discarding c).HiddenFlagExact
    ∧ (discarding c).holds.groups = [group]
    ∧ ∃ u, exec (.answerReturned .read 2)
        { discarding c with transit := { (discarding c).transit with mode := .active } } = .next u :=
  ⟨⟨[], [], _, rfl, by simp, rfl, Nat.le_refl 1⟩, rfl, rfl, rfl, rfl, rfl, fun _ => rfl, rfl, _, rfl⟩
/-- R161: the group of one slot is discarded at the end of a RETURN TO PASS. -/
theorem test_discard :
    (after (exec (.answerReturned .read 2) (discarding .returnToPass))).notices.records.map
        (fun r => (r.kind, r.subject, r.value)) = [(.holdReleased, 1, 769)] := by decide +kernel
theorem meets_waits : (PortReq.arrival (.read (readAt 0 1))).wf = true
    ∧ (drained ([.write (writeAt 0 0)] ++ [.read (readAt 0 1)])).transit.waiting
      = [.write (writeAt 0 0)] ++ [.read (readAt 0 1)] := by decide +kernel

/-- DownstreamPortMatchesAnswers: a waiting request; an issued one behind another of another kind; and none. -/
theorem meets_downstream : ∃ r rest pre a b post,
    ({ live.transit with downWaiting := [⟨.forwardedRead 0, .read, 2, 16, .incrementing, 1, [], 1⟩] } : Transit).downWaiting
      = r :: rest
    ∧ ({ live.transit with downIssued := [⟨.captureRead 5, .read, 2, 16, .incrementing, 1, [], 1⟩,
        ⟨.forwardedRead 0, .read, 2, 16, .incrementing, 2, [], 2⟩,
        ⟨.forwardedWrite 1, .write, 2, 16, .incrementing, 1, [], 1⟩] } : Transit).downIssued = pre ++ a :: b :: post
    ∧ (∀ y ∈ pre, y.isForwardedRead 2 = false) ∧ a.owner = .forwardedRead 0 ∧ a.id = 2
    ∧ (∀ y ∈ pre ++ [a], y.isForwardedWrite 2 = false) ∧ b.owner = .forwardedWrite 1 ∧ b.id = 2 ∧ b.left = 1
    ∧ (∀ y ∈ live.transit.downIssued, y.isForwardedRead 2 = false) :=
  ⟨_, _, [_], _, _, [], rfl, rfl, by decide, rfl, rfl, by decide, rfl, rfl, rfl, by decide +kernel⟩

/-- `held` with slot 0 mapped, its flag set or clear. -/
def mapped (auto : Bool) : State :=
  { held with holds := { held.holds with mapping := some ⟨4, 1, 0, 0, auto⟩ } }

/-- SlotReadsAreServedFromTheirSlot: no CURRENT slot, and one at the two sides of its frame size. -/
theorem meets_capture_read : (readAt 0x104B030 1).wf = true ∧ live.admits .read ∧ active.admits .read
    ∧ live.transit.mode = .active ∧ active.transit.mode = .active
    ∧ decodeAccess live.transit.windows live.pool.size 0x104B030 .incrementing 1 = .capture 3 307248
    ∧ decodeAccess live.transit.windows live.pool.size 0x104B040 .incrementing 1 = .capture 3 307264
    ∧ decodeAccess active.transit.windows active.pool.size 0x1000000 .incrementing 1 = .capture 3 0
    ∧ active.pool.currentOf 3 = none ∧ live.pool.currentOf 3 = some 0 ∧ (live.pool.record 0).frameSize = 307264 :=
  ⟨by decide, live_admits_read,
    admits_read_of _ (by decide +kernel) (by decide +kernel) (by decide +kernel) (by decide +kernel), by decide +kernel,
    by decide +kernel, by decide +kernel, by decide +kernel, by decide +kernel, by decide +kernel, by decide +kernel,
    by decide +kernel⟩
/-- SlotReadsAreServedFromTheirSlot: a review read with and without a mapping. -/
theorem meets_review_read : (mapped true).admits .read ∧ (mapped true).transit.mode = .active
    ∧ decodeAccess (mapped true).transit.windows (mapped true).pool.size 0x304B030 .incrementing 1 = .review 307248
    ∧ decodeAccess (mapped true).transit.windows (mapped true).pool.size 0x304B040 .incrementing 1 = .review 307264
    ∧ (mapped true).holds.mapping = some ⟨4, 1, 0, 0, true⟩ ∧ ((mapped true).pool.record 0).frameSize = 307264
    ∧ live.holds.mapping = none :=
  ⟨admits_read_of _ (by decide +kernel) (by decide +kernel) (by decide +kernel) (by decide +kernel), by decide +kernel,
    by decide +kernel, by decide +kernel, by decide +kernel, by decide +kernel, by decide +kernel⟩
/-- SlotReadsAreServedFromTheirSlot: a beat of a capture-window read, and of a review read. -/
theorem meets_slot_beat : ∃ pre r a post rpre x y rpost,
    ({ live.transit with
      downIssued := [⟨.captureRead 0, .read, 2, 0, .incrementing, 2, [], 2⟩, ⟨.reviewRead 1, .read, 2, 0, .incrementing, 1, [], 1⟩]
      reads := [⟨0, readAt 0x1000000 2, .capture 0 0 307264, []⟩,
        ⟨1, readAt 0x3000000 1, .review 0 307248 307264 4 true, []⟩] } : Transit)
      = { live.transit with downIssued := pre ++ r :: a :: post, reads := rpre ++ x :: y :: rpost }
    ∧ r.id = 2 ∧ r.owner = .captureRead x.key ∧ (∀ z ∈ pre, z.isCapture 2 = false)
    ∧ (∃ c, x.service = .capture c 0 307264) ∧ (∀ z ∈ rpre ++ y :: rpost, z.key ≠ x.key)
    ∧ a.id = 2 ∧ a.owner = .reviewRead y.key ∧ (∀ z ∈ pre ++ [r], z.isReview 2 = false)
    ∧ (∃ m n u, y.service = .review m 307248 307264 n u) ∧ (∀ z ∈ rpre ++ x :: rpost, z.key ≠ y.key) :=
  ⟨[], _, _, [], [], _, _, [], rfl, rfl, rfl, by simp, ⟨_, rfl⟩, by decide, rfl, rfl, by decide, ⟨_, _, _, rfl⟩, by decide⟩

/-- CaptureWritesAreSteered: a write in order, one 16 bytes ahead, and the last 16 bytes of the frame. -/
theorem meets_steered : (writeAt 4096 0).wf = true ∧ (filling frame 0).admits .write
    ∧ (filling frame 0).transit.mode = .active
    ∧ (∀ o ∈ [4096, 4112, 16, 307248], decodeAccess (filling frame 0).transit.windows (filling frame 0).pool.size
        (writeAt o 0).addr.toNat .incrementing 1 = .capture 3 o ∧ 0 < o ∧ o < frame.frameSize)
    ∧ ((filling frame 0).stream 3).cfg.enabled = true ∧ ((filling frame 0).stream 3).cap.fill = some frame
    ∧ ((filling frame 0).stream 3).cap.heldWrites = [] ∧ frame.endMark = false
    ∧ (∀ x ∈ (filling frame 0).transit.writes, x.key ≠ (filling frame 0).transit.nextKey) :=
  ⟨by decide, filling_admits_write, by decide +kernel, by decide +kernel, by decide +kernel, by decide +kernel,
    by decide +kernel, rfl, by decide +kernel⟩

/-- CaptureWritesAreSteered, PixelsAreCountedInTheirTiles: the last 16 bytes of a frame and the 16 beyond, a strobe clear
in each; sets that collect and that do not. -/
theorem meets_written : 307248 % 16 = 0 ∧ 307264 % 16 = 0
    ∧ writtenStrobe [⟨0xFFFE, 7⟩, ⟨0x7FFF, 7⟩] 0 = false ∧ (0 < 16 * 2 ∧ 307248 + 0 < 307264)
    ∧ writtenStrobe [⟨0xFFFE, 7⟩, ⟨0x7FFF, 7⟩] 31 = false ∧ ¬(307248 + 31 < 307264)
    ∧ ({ Accumulators.reset with state := .collecting } : Accumulators).state = .collecting
    ∧ Accumulators.reset.state ≠ .collecting := by decide

/-- `live` with no slot of stream 3 free: slots 1 to 3 pinned and RETIRED. -/
def starved : State :=
  { live with pool := { live.pool with
      slots := live.pool.slots.zipIdx.map (fun x =>
        if 1 ≤ x.2 ∧ x.2 ≤ 3 then { x.1 with life := .retired, pins := 1 } else x.1)
      free := [4, 5] } }

/-- StartWriteTakesTheOldestFreeSlot: with slot 1 the oldest, and with none of the stream's. -/
theorem meets_start : (writeAt 0 0).wf = true ∧ live.admits .write ∧ live.transit.mode = .active
    ∧ decodeAccess live.transit.windows live.pool.size (writeAt 0 0).addr.toNat .incrementing 1 = .capture 3 0
    ∧ (live.stream 3).cfg.enabled = true ∧ (live.stream 3).cap.fill = none ∧ (live.stream 3).cap.heldWrites = []
    ∧ (∀ x ∈ live.transit.writes, x.key ≠ live.transit.nextKey) ∧ live.FreeListExact
    ∧ live.pool.free = [] ++ 1 :: [2, 3, 4, 5] ∧ live.pool.owns 3 1 = true :=
  ⟨by decide, live_admits_write, by decide +kernel, by decide +kernel, by decide +kernel, by decide +kernel,
    by decide +kernel, by decide +kernel, exact_of _ (by decide +kernel) (by decide +kernel) (by decide +kernel),
    by decide +kernel, by decide +kernel⟩
theorem meets_start_starved : starved.admits .write ∧ starved.transit.mode = .active
    ∧ decodeAccess starved.transit.windows starved.pool.size (writeAt 0 0).addr.toNat .incrementing 1 = .capture 3 0
    ∧ (starved.stream 3).cfg.enabled = true ∧ (starved.stream 3).cap.fill = none
    ∧ (starved.stream 3).cap.heldWrites = [] ∧ (∀ x ∈ starved.transit.writes, x.key ≠ starved.transit.nextKey)
    ∧ starved.FreeListExact ∧ (∀ m ∈ starved.pool.free, starved.pool.owns 3 m = false) :=
  ⟨admits_write_of _ (by decide +kernel) (by decide +kernel) (by decide +kernel) (by decide +kernel), by decide +kernel,
    by decide +kernel, by decide +kernel, by decide +kernel, by decide +kernel, by decide +kernel,
    exact_of _ (by decide +kernel) (by decide +kernel) (by decide +kernel), by decide +kernel⟩

/-- StartWriteTakesTheOldestFreeSlot: a start write that tears a frame, with an older slot free and with none. -/
theorem meets_torn : (writeAt 0 0).wf = true ∧ (filling frame 0).admits .write ∧ (filling frame 0).transit.mode = .active
    ∧ decodeAccess (filling frame 0).transit.windows (filling frame 0).pool.size (writeAt 0 0).addr.toNat .incrementing 1
      = .capture 3 0
    ∧ ((filling frame 0).stream 3).cfg.enabled = true ∧ ((filling frame 0).stream 3).cap.fill = some frame
    ∧ ((filling frame 0).stream 3).cap.awaiting = 0 ∧ ((filling frame 0).stream 3).cap.heldWrites = []
    ∧ (filling frame 0).FreeListExact
    ∧ (filling frame 0).pool.slots[1]? = some ⟨.filling, some 3, false, 0, 0, 0, 0, false, false, 0, none⟩
    ∧ (filling frame 0).pool.free ++ [frame.slot] = [] ++ 2 :: [3, 4, 5, 1] ∧ (filling frame 0).pool.owns 3 2 = true :=
  ⟨by decide, filling_admits_write, rfl, by decide +kernel, by decide +kernel, by decide +kernel, by decide +kernel,
    by decide +kernel, exact_of _ (by decide +kernel) (by decide +kernel) (by decide +kernel), by decide +kernel,
    by decide +kernel, by decide +kernel⟩
/-- ... and a start write, or one behind a set end mark, that must wait for the responses of a frame. -/
theorem meets_held_write : (filling frame 1).admits .write ∧ 0 < ((filling frame 1).stream 3).cap.awaiting
    ∧ decodeAccess (filling frame 1).transit.windows (filling frame 1).pool.size (writeAt 0 0).addr.toNat .incrementing 1
      = .capture 3 0
    ∧ ((filling { frame with endMark := true } 1).stream 3).cap.fill = some { frame with endMark := true }
    ∧ (∀ x ∈ (filling frame 1).transit.writes, x.key ≠ (filling frame 1).transit.nextKey) :=
  ⟨admits_write_of _ (by decide +kernel) (by decide +kernel) (by decide +kernel) (by decide +kernel), by decide +kernel,
    by decide +kernel, by decide +kernel, by decide +kernel⟩

/-- A state with stream 3 changed. -/
def with3 (s : State) (f : Stream → Stream) : State := { s with streams := modAt s.streams 3 f }

/-- `live` with stream 3 disabled. -/
def off : State := with3 live (fun st => { st with cfg := { camera with enabled := false } })

/-- UnfitWritesAreAbsorbed: a disabled stream, no frame in progress, and a tail write. -/
theorem meets_absorbed : (writeAt 16 0).wf = true ∧ off.admits .write ∧ live.admits .write ∧ (filling frame 0).admits .write
    ∧ off.transit.mode = .active ∧ live.transit.mode = .active ∧ (filling frame 0).transit.mode = .active
    ∧ (∀ s ∈ [off, live, filling frame 0], (∀ x ∈ s.transit.writes, x.key ≠ s.transit.nextKey)
        ∧ (s.stream 3).cap.heldWrites = [])
    ∧ (off.stream 3).cfg.enabled = false
    ∧ decodeAccess off.transit.windows off.pool.size (writeAt 0 0).addr.toNat .incrementing 1 = .capture 3 0
    ∧ (live.stream 3).cap.fill = none
    ∧ decodeAccess live.transit.windows live.pool.size (writeAt 16 0).addr.toNat .incrementing 1 = .capture 3 16
    ∧ ((filling frame 0).stream 3).cap.fill = some frame ∧ frame.endMark = false
    ∧ decodeAccess (filling frame 0).transit.windows (filling frame 0).pool.size (writeAt 307264 0).addr.toNat
        .incrementing 1 = .capture 3 frame.frameSize :=
  ⟨by decide, admits_write_of _ (by decide +kernel) (by decide +kernel) (by decide +kernel) (by decide +kernel),
    live_admits_write, filling_admits_write, by decide +kernel, by decide +kernel, by decide +kernel, by decide +kernel,
    by decide +kernel, by decide +kernel, by decide +kernel, by decide +kernel, by decide +kernel, rfl, by decide +kernel⟩

/-- The steered write of `finishing`. -/
def steeredReq : DownReq := ⟨.steeredWrite 0 3, .write, 1, 0, .incrementing, 1, [], 1⟩

/-- `finishing` with its end mark as the frame has it, and with held writes or an abandoned slot. -/
def answering (f : Option Filling) (held : List CaptureWrite) (abandoned : Option Nat) : State :=
  with3 (finishing frame) (fun st => { st with
    cap := { st.cap with fill := f, heldWrites := held, abandoned := abandoned } })

/-- A held start write of stream 3. -/
def heldStart (key : Nat) : CaptureWrite := ⟨key, 1, 0, (writeAt 0 0x00090103).beats⟩

/-- SteeredResponseLowersTheCount: two writes await; and one, of a frame without its end mark, of an abandoned frame, and
with one or two start writes held. -/
theorem meets_steered_response : (issued (filling frame 2) steeredReq).transit.downIssued = [] ++ steeredReq :: []
    ∧ steeredReq.owner = .steeredWrite 0 3 ∧ steeredReq.id = 1 ∧ steeredReq.left = 1
    ∧ ((issued (filling frame 2) steeredReq).stream 3).cap.awaiting = 1 + 1
    ∧ (answering (some frame) [] none).transit.downIssued = [] ++ steeredReq :: []
    ∧ ((answering (some frame) [] none).stream 3).cap.awaiting = 0 + 1
    ∧ ((answering (some frame) [] none).stream 3).cap.fill = some frame ∧ frame.endMark = false
    ∧ ((answering none [] (some 1)).stream 3).cap.abandoned = some 1 := by decide +kernel
theorem meets_held_start : ∀ ws ∈ [[], [heldStart 8]], ∀ f ∈ [frame, { frame with endMark := true }],
    ((answering (some f) (heldStart 7 :: ws) none).stream 3).cap.heldWrites = heldStart 7 :: ws
    ∧ ((answering (some f) (heldStart 7 :: ws) none).stream 3).cap.fill = some f ∧ (heldStart 7).offset = 0
    ∧ (heldStart 8).offset = 0 ∧ ((answering (some f) (heldStart 7 :: ws) none).stream 3).cfg.enabled = true
    ∧ ((answering (some f) (heldStart 7 :: ws) none).pool.slots[f.slot]?).map Slot.life = some .filling
    ∧ (answering (some f) (heldStart 7 :: ws) none).pool.free = [] ++ 2 :: [3, 4, 5]
    ∧ (answering (some f) (heldStart 7 :: ws) none).pool.owns 3 2 = true := by decide +kernel
theorem meets_held_exact : (answering (some frame) [heldStart 7] none).FreeListExact :=
  exact_of _ (by decide +kernel) (by decide +kernel) (by decide +kernel)

/-- SteeredResponseLowersTheCount: behind a whole frame, a write that is no start write, a start write, the next write of
its frame, and a further start write. -/
def queued : List CaptureWrite :=
  [⟨7, 1, 16, [⟨0xFFFF, 0⟩]⟩, heldStart 8, ⟨9, 1, 16, [⟨0xFFFF, 0⟩]⟩, heldStart 10]
theorem meets_held_writes : (answering (some { frame with endMark := true }) queued none).transit.downIssued = [] ++ steeredReq :: []
    ∧ ((answering (some { frame with endMark := true }) queued none).stream 3).cap.awaiting = 0 + 1
    ∧ ((answering (some { frame with endMark := true }) queued none).stream 3).cap.abandoned = none
    ∧ ((answering (some { frame with endMark := true }) queued none).stream 3).cap.heldWrites = queued := by decide +kernel
/-- R23, R31: the first is an orphan in IDLE, the next two are steered into slot 2, and the last goes on waiting. -/
theorem test_held_writes :
    (fun (c : Capture) => (c.orphans, c.awaiting, c.fill.map (fun f => (f.slot, f.offset)), c.heldWrites.map CaptureWrite.key))
      ((after (exec (.steeredWriteResponse (.sinceReset 1) .okay)
        (answering (some { frame with endMark := true }) queued none))).stream 3).cap
      = (1, 2, some (2, 32), [10]) := by decide +kernel

theorem finishing_last (f : Filling) : (finishing f).lastSteered 3 1 0 [] :=
  ⟨⟨[], [], steeredReq, rfl, by simp, rfl, rfl, rfl, rfl⟩, rfl, rfl, rfl⟩

/-- CompletedFrameIsAccepted. -/
theorem meets_completed : (finishing frame).lastSteered 3 1 0 []
    ∧ ((finishing frame).stream 3).cap.fill = some { frame with endMark := true } ∧ frame.damaged = false
    ∧ frame.identity = ((finishing frame).stream 3).cfg.identity
    ∧ (finishing frame).pool.slots[1]? = some ⟨.filling, some 3, false, 0, 0, 0, 0, false, false, 0, none⟩
    ∧ (finishing frame).PostFrame 3 1 [] none []
    ∧ (finishing frame).pool.currentOf 3 = some 0 :=
  ⟨finishing_last _, by decide +kernel, rfl, by decide +kernel, by decide +kernel,
    .inl ⟨by decide +kernel, by decide +kernel, rfl, rfl⟩, by decide +kernel⟩
/-- `finishing frame` with one group of stream 3 that holds the slots l and wants two more. -/
def grouped (l : List Nat) : State :=
  { finishing frame with holds := { live.holds with groups := [⟨1, .command, 3, 4, l, 2⟩] } }

/-- CompletedFrameIsAccepted: a group that takes the slot, and one that eight held slots cut short. -/
theorem meets_post_frame :
    (grouped [0]).PostFrame 3 1 [⟨1, .command, 3, 4, [0, 1], 1⟩] (some 1) []
    ∧ (grouped (List.range 8)).PostFrame 3 1 [⟨1, .command, 3, 4, List.range 8, 0⟩] none
        [⟨1, .command, 3, 4, List.range 8, 2⟩] := by
  constructor <;> refine .inr ⟨[], _, [], rfl, by simp, rfl, Nat.zero_lt_succ 1, ?_⟩
  · rw [if_pos (by decide +kernel)]
    exact ⟨rfl, rfl, rfl⟩
  · rw [if_neg (by decide +kernel)]
    exact ⟨by decide +kernel, rfl, by decide +kernel⟩

/-- DamagedOrForeignFrameIsLost: a damaged frame, an ERROR at the last response, and a foreign identity. -/
theorem meets_lost : (finishing { frame with damaged := true }).lastSteered 3 1 0 []
    ∧ ((finishing { frame with damaged := true }).stream 3).cap.fill = some { frame with damaged := true, endMark := true }
    ∧ (finishing { frame with identity := 5 }).lastSteered 3 1 0 []
    ∧ ((finishing { frame with identity := 5 }).stream 3).cap.fill = some { frame with identity := 5, endMark := true }
    ∧ (5 : Seq) ≠ ((finishing { frame with identity := 5 }).stream 3).cfg.identity :=
  ⟨finishing_last _, by decide +kernel, finishing_last _, by decide +kernel, by decide +kernel⟩

/-- SlotOperationsMoveTheFreeList: a FREE slot, a FILLING one, a pinned RETIRED one, and a number that names none. -/
theorem meets_slot_operations : live.FreeListExact ∧ starved.FreeListExact ∧ (filling frame 0).FreeListExact
    ∧ live.pool.slots[6]? = none ∧ (live.pool.slots[5]?).map Slot.life = some .free
    ∧ ((filling frame 0).pool.slots[1]?).map Slot.life = some .filling
    ∧ (starved.pool.slots[1]?).map (fun x => (x.life, x.pins, x.hold)) = some (.retired, 1, none) :=
  ⟨exact_of _ (by decide +kernel) (by decide +kernel) (by decide +kernel),
    exact_of _ (by decide +kernel) (by decide +kernel) (by decide +kernel),
    exact_of _ (by decide +kernel) (by decide +kernel) (by decide +kernel), by decide +kernel, by decide +kernel,
    by decide +kernel, by decide +kernel⟩

/-- LatchFixesTheFrame: a state for each of the three views. -/
theorem meets_latch : (readAt 0x2000000 16).wf = true ∧ showing.admits .read
    ∧ (∀ s ∈ [showing, raised live 2, raised live 13], s.transit.mode = .active ∧ (s.screen 0).frame = none
        ∧ 64 < (s.screen 0).w * (s.screen 0).h
        ∧ decodeAccess s.transit.windows s.pool.size (readAt 0x2000000 16).addr.toNat .incrementing 16 = .screen 0 0)
    ∧ (showing.lines.doorViewActive 0 = false ∧ showing.lines.reversePlacement = none)
    ∧ (raised live 2).lines.doorViewActive 0 = true
    ∧ ((raised live 13).lines.doorViewActive 0 = false ∧ (raised live 13).lines.reversePlacement = some 1) :=
  ⟨by decide, admits_read_of _ (by decide +kernel) (by decide +kernel) (by decide +kernel) (by decide +kernel),
    by decide +kernel, by decide +kernel, by decide +kernel, by decide +kernel⟩

/-- LatchFixesTheFrame: a frame that is still there, with one of its reads in flight. -/
def again : State :=
  reading (onScreen openFrame) ⟨0, readAt 0x2000100 4, .screen ⟨0, 256, 320, ⟨0, 0, 48⟩, openFrame.panes, [], true, []⟩, []⟩
theorem meets_restart : again.admits .read ∧ again.transit.mode = .active ∧ (again.screen 0).frame = some openFrame
    ∧ (again.transit.reads.filter (ReadTxn.inFrame 0)).length = 1
    ∧ decodeAccess again.transit.windows again.pool.size 0x2000000 .incrementing 16 = .screen 0 0
    ∧ 64 < (again.screen 0).w * (again.screen 0).h :=
  ⟨admits_read_of _ (by decide +kernel) (by decide +kernel) (by decide +kernel) (by decide +kernel), by decide +kernel,
    by decide +kernel, by decide +kernel, by decide +kernel, by decide +kernel⟩
/-- LatchFixesTheFrame: the pane of stream 3 is not blank, wide to its last column; with a lens of any state. -/
theorem meets_overlay (z : LensState) (f : Freshness) (hf : f ≠ .noSignal) :
    ¬(((with3 live (fun st => { st with lens := { st.lens with state := z }, cap := { st.cap with freshness := f } })).stream
        pane.stream).cfg.enabled = false ∨ f = .noSignal ∨ live.pool.currentOf pane.stream = none
      ∨ ¬(pane.sx + pane.sw ≤ camera.w ∧ pane.sy + pane.sh ≤ camera.h)) := by
  rintro (h | h | h | h)
  · exact absurd h (by cases z <;> cases f <;> decide +kernel)
  · exact hf h
  · exact absurd h (by decide +kernel)
  · exact h (by decide)
/-- LatchFixesTheFrame: each cause of a blank pane. -/
theorem meets_blank : (off.stream 3).cfg.enabled = false ∧ (active.stream 3).cap.freshness = .noSignal
    ∧ active.pool.currentOf 3 = none ∧ ¬(({ pane with sx := 1 } : Pane).sx + pane.sw ≤ camera.w) := by decide +kernel

/-- ScreenReadsJoinTheirFrameOrAreUnlatched: the first and the last block above offset 0, with an OPEN frame, an EXPIRED
one, and none. -/
theorem meets_join : (onScreen openFrame).admits .read ∧ live.admits .read
    ∧ (∀ s ∈ [live, onScreen openFrame, onScreen { openFrame with expired := true, timer := none }],
      s.transit.mode = .active ∧ s.inReset = false ∧ s.transit.waiting = [] ∧ s.transit.reads = []
      ∧ ∀ o ∈ [16, 307184], decodeAccess s.transit.windows s.pool.size (0x2000000 + o) .incrementing 1 = .screen 0 o)
    ∧ (307184 < 4 * (live.screen 0).w * (live.screen 0).h ∧ 4 * (live.screen 0).w * (live.screen 0).h ≤ 307184 + 16 * 1)
    ∧ openFrame.expired = false ∧ (live.screen 0).kept = none :=
  ⟨admits_read_of _ (by decide +kernel) (by decide +kernel) (by decide +kernel) (by decide +kernel), live_admits_read,
    by decide +kernel, by decide +kernel, rfl, by decide +kernel⟩

/-- OpenDoorIsAlwaysShown: door 2 open on the side screen S0 shows. -/
theorem meets_open_door : (readAt 0x2000000 1).wf = true ∧ (raised live 2).admits .read
    ∧ (raised live 2).transit.mode = .active
    ∧ decodeAccess (raised live 2).transit.windows (raised live 2).pool.size 0x2000000 .incrementing 1 = .screen 0 0
    ∧ (raised live 2).lines.doorEnable = true ∧ (raised live 2).lines.doorOpen 2 = true
    ∧ sideOf 2 = (raised live 2).lines.shownSide 0 ∧ ((raised live 2).stream 3).cfg.role = .door
    ∧ ((raised live 2).stream 3).cfg.door = (2 : Fin 12).val ∧ ((raised live 2).stream 3).cfg.enabled = true
    ∧ (∀ j, ((raised live 2).stream j).cfg.role = .door → ((raised live 2).stream j).cfg.door = 2 → j = 3) :=
  ⟨by decide, admits_read_of _ (by decide +kernel) (by decide +kernel) (by decide +kernel) (by decide +kernel),
    by decide +kernel, by decide +kernel, by decide +kernel, by decide +kernel, by decide +kernel, by decide +kernel,
    by decide +kernel, by decide +kernel, by decide +kernel⟩

/-- `live` with a camera of door 4 as stream 5 and one of end B as stream 6. -/
def cameras : State :=
  { live with
    streams := modAt (modAt live.streams 5 (fun st => { st with cfg := { camera with door := 4 } })) 6
      (fun st => { st with cfg := { camera with role := .endB } }) }
/-- OpenDoorIsAlwaysShown: doors 2 and 4 open; none open and two kept; the trailing-end stream of each cab. -/
theorem meets_shown : ([2, 4] : List Nat).Pairwise (fun a b => a < b)
    ∧ (∀ d : Fin 12, sideOf d = 0 ∧ (raised (raised cameras 2) 4).lines.doorOpen d = true ↔ d.val ∈ [2, 4])
    ∧ (raised (raised cameras 2) 4).lines.sides[(0 : Fin 2)].kept = []
    ∧ (∀ d : Fin 12, (lingering 1).lines.doorOpen d = false) ∧ (lingering 1).lines.sides[(0 : Fin 2)].kept.Pairwise (· < ·)
    ∧ (∀ j, (cameras.stream j).cfg.role = .endB ↔ j = 6) ∧ (∀ j, (cameras.stream j).cfg.role ≠ .endA) := by decide +kernel
/-- OpenDoorIsAlwaysShown: the order for cab A and for cab B (R131), and the pane of the reverse view (R139). -/
theorem test_door_order :
    (((raised (raised cameras 2) 4).doorView 0).panes.map Pane.stream = [3, 5])
    ∧ (((raised (raised (raised cameras 2) 4) 12).doorView 1).panes.map Pane.stream = [5, 3])
    ∧ ((cameras.reverseView 1).panes.map Pane.stream = [6]) := by decide +kernel

/-- OverlayDecidesThePixel: the edges of the pane of section 7.5 and of its badge, a stripe and its neighbour. -/
theorem meets_pixel (o : Overlay) : [pane75 o] = [] ++ pane75 o :: [] ∧ (pane75 o).overlay = o ∧ (pane75 o).slot = some 5
    ∧ ((pane75 o).pane.covers 640 20 = true ∧ (pane75 o).pane.covers 1279 379 = true)
    ∧ ((pane75 o).pane.covers 1280 379 = false ∧ (pane75 o).pane.covers 640 19 = false)
    ∧ ((pane75 o).pane.inBadge 644 24 = true ∧ (pane75 o).pane.inBadge 667 47 = true)
    ∧ ((pane75 o).pane.inBadge 643 24 = false ∧ (pane75 o).pane.inBadge 668 47 = false)
    ∧ (700 + 100) % 16 < 3 ∧ 3 ≤ (700 + 103) % 16 := by
  cases o <;> refine ⟨rfl, rfl, rfl, ?_, ?_, ?_, ?_, ?_, ?_⟩ <;> decide

/-- AperturePixelsInOrder: the last pixel of the last beat, and a block that has come back. -/
theorem meets_aperture : (15 < 16 ∧ 3 < 4)
    ∧ ([⟨4, 64, none⟩, ⟨5, 80, some ⟨7, .error⟩⟩] : List GatherBlock) = [⟨4, 64, none⟩] ++ ⟨5, 80, some ⟨7, .error⟩⟩ :: []
    ∧ ∀ y ∈ ([⟨4, 64, none⟩] : List GatherBlock), ¬(y.slot = 5 ∧ y.offset = 80) := by decide

/-- The service of a screen read that needs block 64 of slot 4. -/
def oneBlock (got : Option ReadBeat) (latched : Bool) : ScreenRead :=
  ⟨0, 0, 320, ⟨0, 0, 0⟩, [], [⟨4, 64, got⟩], latched, if latched then [] else [4]⟩

/-- GatherBeatIsDelivered: the second gather read, behind one of another upstream read. -/
theorem meets_gather : ∃ pre d post rpre x rpost,
    ({ live.transit with
      downIssued := [⟨.gather 0 4 64, .read, 9, 0, .incrementing, 1, [], 1⟩, ⟨.gather 1 4 64, .read, 9, 0, .incrementing, 1, [], 1⟩]
      reads := [⟨0, readAt 0x2000000 1, .screen (oneBlock none true), []⟩,
        ⟨1, readAt 0x2000000 1, .screen (oneBlock none true), []⟩] } : Transit)
      = { live.transit with downIssued := pre ++ d :: post, reads := rpre ++ x :: rpost }
    ∧ (pre.filter DownReq.isGather).length = 1 ∧ d.owner = .gather x.key 4 64 ∧ d.left = 1
    ∧ (∀ y ∈ rpre ++ rpost, y.key ≠ x.key) ∧ x.service = .screen (oneBlock none true) :=
  ⟨[_], _, [], [_], _, [], rfl, by decide, rfl, rfl, by decide, rfl⟩

/-- ScreenReadsReturn: an unlatched read; the last read of a frame that has seen its end, or expired; and one of two. -/
theorem meets_screen_return (latched : Bool) : ∃ pre x post,
    (reading (onScreen openFrame) ⟨0, readAt 0x2000000 1, .screen (oneBlock (some ⟨7, .okay⟩) latched), []⟩).transit.reads
      = pre ++ x :: post
    ∧ (∀ y ∈ pre, y.req.id ≠ 2) ∧ x.req.id = 2 ∧ x.service = .screen (oneBlock (some ⟨7, .okay⟩) latched)
    ∧ (∀ b ∈ (oneBlock (some ⟨7, .okay⟩) latched).blocks, b.got ≠ none)
    ∧ (onScreen openFrame).transit.mode ≠ .draining ∧ (onScreen openFrame).transit.waiting = [] :=
  ⟨[], _, [], rfl, by simp, rfl, rfl, by simp [oneBlock], by decide +kernel, by decide +kernel⟩
theorem meets_screen_close : ((onScreen { openFrame with endSeen := true }).screen 0).frame
      = some { openFrame with endSeen := true }
    ∧ openFrame.inFlight = 1 ∧ ((onScreen { openFrame with expired := true, timer := none }).screen 0).frame
      = some { openFrame with expired := true, timer := none }
    ∧ ((onScreen { openFrame with endSeen := true, inFlight := 2 }).screen 0).frame
      = some { openFrame with endSeen := true, inFlight := 2 }
    ∧ ((onScreen openFrame).screen 0).frame = some openFrame ∧ openFrame.endSeen = false ∧ openFrame.expired = false := by
  decide +kernel

/-- FittedPanesStayInTheirCells: the fewest and the most doors; a frame that fits at 4 and one that does not. -/
theorem meets_fitted : gridOf 1 = (1, 1) ∧ gridOf 6 = (3, 2) ∧ (1 ≤ 6 ∧ 6 ≤ 6 ∧ 5 < 6)
    ∧ (cellPane 1024 768 3 2 5 3 { camera with w := 1280, h := 720 }).k = 4
    ∧ (1280 ≤ 4 * (1024 / 3) ∧ 720 ≤ 4 * (768 / 2))
    ∧ (cellPane 1024 768 3 2 5 3 { camera with w := 2048, h := 1536 }).k = 4
    ∧ ¬(2048 ≤ 4 * (1024 / 3) ∧ 1536 ≤ 4 * (768 / 2)) := by decide +kernel

/-- The accumulators of a frame of 320 × 240 whose pixel 319 was handled last. -/
def collecting : Accumulators :=
  { Accumulators.reset with state := .collecting, w := 320, h := 240, tw := 40, th := 40, carried := some (9, 319) }

/-- PixelsAreCountedInTheirTiles: the first pixel of row 1 has no left neighbour; the corner pixel. -/
theorem meets_pixels : ((0 : Fin 48).val = 8 * min 5 (320 / 320 / 40) + min 7 (320 % 320 / 40))
    ∧ ((47 : Fin 48).val = 8 * min 5 (76799 / 320 / 40) + min 7 (76799 % 320 / 40))
    ∧ collecting.carried = some (9, 319) ∧ ¬(1 ≤ 320 % collecting.w) ∧ (1 ≤ 319 % collecting.w) := by decide

/-- EvaluationCompletes: no evaluation; one that counts, one that is discarded; a queue with and without a record. -/
theorem meets_evaluation : live.evals.current = none
    ∧ (∀ b ∈ [true, false], (evaluating (record 0 0) b).evals.current = some ⟨record 0 0, b⟩)
    ∧ (evaluating (record 0 0) false).port.dump = none ∧ (evaluating (record 0 0) false).evals.queue = [] := by
  decide +kernel

/-- EvaluationCompletes: a dump that waits for the evaluation of stream 3, and one that has its snapshot. -/
theorem meets_dump_waits (discard : Bool) (snapshot : Option (List Byte)) :
    ({ evaluating (record 0 0) discard with port := { live.port with
      dump := some ⟨3, 4, 0x50000000, 3, snapshot, 0, false, 0⟩ } } : State).port.dump.map (fun d => (d.stream, d.snapshot))
      = some ((record 0 0).stream, snapshot) := rfl

/-- TilesFollowTheirRules: an OPEN record whose tile 0 has 64, or 63, gradients; and every kind of tile. -/
theorem meets_tiles : (record 896 64).pix ≠ 0 ∧ Soiling.reset.dark ≤ (record 896 64).luma / (record 896 64).pix
    ∧ (record 896 64).luma / (record 896 64).pix ≤ Soiling.reset.glare
    ∧ (record 896 64).grad[(0 : Fin 48)] = 64 ∧ (record 896 63).grad[(0 : Fin 48)] = 63
    ∧ camera.excludes 0 = false ∧ ({ camera with exCols := 1 } : StreamConfig).excludes 0 = true
    ∧ Tile.reset.state = .learning ∧ (sharp 15 0).baseline < 16 ∧ 16 ≤ (sharp 16 0).baseline
    ∧ (sharp 8000 0).state = .sharp ∧ ({ sharp 8000 0 with state := .blurred } : Tile).state = .blurred := by
  decide +kernel
/-- TilesFollowTheirRules: the ratio below, on and above the thresholds 128 and 192, and the persistence limit 3. -/
theorem meets_ratio : (∀ p ∈ [(895, 114), (1000, 128), (1500, 192), (1508, 193)],
      min 1023 (p.1 * 256 / 64 * 256 / (sharp 7980 2).baseline) = p.2)
    ∧ Soiling.reset.persistOn ≤ 2 + 1 ∧ 1 + 1 < Soiling.reset.persistOn := by decide +kernel

/-- GatedFramesMoveNoTileAndOpenOnesJudgeTheLens: no pixel, a mean of 23, of 24, of 232 and of 233; a lens with 8 counted
tiles and with none. -/
theorem meets_gate : ({ record 0 0 with pix := 0 } : FrameRecord).pix = 0
    ∧ (∀ p ∈ [(23, true, false), (24, false, false), (232, false, false), (233, false, true)],
        (decide (76800 * p.1 / 76800 < Soiling.reset.dark), decide (Soiling.reset.glare < 76800 * p.1 / 76800)) = p.2)
    ∧ ((judged.evaluated Soiling.reset (record 0 0)).lens.counted = 48)
    ∧ ((live.streams[(3 : Fin 16)].evaluated Soiling.reset (record 0 0)).lens.counted = 0) := by decide +kernel
/-- ... and a fraction on each side of the levels 96, 80, 64 and 48. -/
theorem meets_levels : (∀ f ∈ [96, 95, 80, 79, 64, 63, 48, 47], f ≤ 256)
    ∧ Soiling.reset.soiled ≤ 96 ∧ 95 < Soiling.reset.soiled ∧ Soiling.reset.suspect ≤ 64 ∧ 63 < Soiling.reset.suspect
    ∧ (Soiling.reset.soiled : Int) - 16 ≤ 80 ∧ 79 < (Soiling.reset.soiled : Int) - 16
    ∧ (Soiling.reset.suspect : Int) - 16 ≤ 48 ∧ 47 < (Soiling.reset.suspect : Int) - 16 := by decide +kernel

/-- EveryLineIsSampledEachMillisecond: quiet lines, and a line at its second differing sample. -/
theorem meets_sample : live.inReset = false
    ∧ (∀ l : Fin 15, (0 : BitVec 15).getLsbD l.val = live.lines.lines[l].debounced)
    ∧ (pending2 live 2).lines.lines[(2 : Fin 15)].run = 2 := by decide +kernel

theorem none_due (s : State) (now : Time) (h1 : ∀ i ∈ List.finRange 16, (s.stream i).cap.timer ≠ some now)
    (h2 : ∀ c ∈ List.finRange 2, (s.screen c).frame = none) (h3 : ∀ x ∈ List.finRange 2, s.lines.sides[x].timer ≠ some now)
    (h4 : s.notices.timer ≠ some now) : s.NoneDue now :=
  ⟨fun i => h1 i (List.mem_finRange i), fun c _ hf => (nomatch (h2 c (List.mem_finRange c)).symm.trans hf),
    fun x => h3 x (List.mem_finRange x), h4⟩

theorem live_none_due : live.NoneDue live.time :=
  none_due _ _ (by decide +kernel) (by decide +kernel) (by decide +kernel) (by decide +kernel)

/-- EveryLineIsSampledEachMillisecond: each kind of timer due, with none that is taken before it. -/
theorem meets_left_over : (∃ u, exec (.freshnessTimerExpiry 3) { live with time := 205 } = .next u)
    ∧ (∀ j, j < (3 : Fin 16) → ((({ live with time := 205 } : State).stream j).cap.timer ≠ some 205))
    ∧ ((onScreen openFrame).screen 0).frame.bind ScreenFrame.timer = some 100
    ∧ (∀ i ∈ List.finRange 16, ((onScreen openFrame).stream i).cap.timer ≠ some 100)
    ∧ (lingering 1).lines.sides[(0 : Fin 2)].timer = some 1 ∧ (lingering 1).lines.sides[(1 : Fin 2)].timer = none
    ∧ (lingering 1).NoneDue 100 :=
  ⟨⟨_, rfl⟩, by decide +kernel, by decide +kernel, by decide +kernel, by decide +kernel, by decide +kernel,
    none_due _ _ (by decide +kernel) (by decide +kernel) (by decide +kernel) (by decide +kernel)⟩

theorem only_change (s : State) (levels : BitVec 15) (l : Fin 15) (h : s.inReset = false)
    (h1 : levels.getLsbD l.val = !s.lines.lines[l].debounced) (h2 : s.lines.lines[l].run = 2)
    (h3 : ∀ k ∈ List.finRange 15, k ≠ l → levels.getLsbD k.val = s.lines.lines[k].debounced) : s.onlyChange levels l :=
  ⟨h, h1, h2, fun k => h3 k (List.mem_finRange k)⟩

/-- DoorLinesMoveTheirSide: door 2 opens, seen and blind, and closes. -/
theorem meets_door : (pending2 live 2).onlyChange 4 2 ∧ (pending2 live 2).transit.mode = .active
    ∧ (4 : BitVec 15).getLsbD 2 = true ∧ (pending2 configured 2).onlyChange 4 2 ∧ (pending2 configured 2).NoneDue 0
    ∧ (pending2 configured 2).transit.mode = .pass ∧ (pending2 (draining .softReset) 2).onlyChange 4 2
    ∧ (pending2 (draining .softReset) 2).NoneDue 0 ∧ (pending2 (draining .softReset) 2).transit.mode = .draining
    ∧ (pending2 (draining .softReset) 2).transit.drainedFrom = .active
    ∧ (∀ j, ((pending2 live 2).stream j).cfg.role = .door → ((pending2 live 2).stream j).cfg.door = 2 → j = 3)
    ∧ (pending2 (raised live 2) 2).onlyChange 0 2 ∧ (pending2 live 7).onlyChange 128 7
    ∧ (∀ i, ((pending2 live 7).stream i).cfg.role = .door → ((pending2 live 7).stream i).cfg.door ≠ 7)
    ∧ (pending2 live 2).NoneDue 0 ∧ (pending2 (raised live 2) 2).NoneDue 0 ∧ (pending2 live 7).NoneDue 0
    ∧ (lingering 1).onlyChange 4 2 ∧ (lingering 1).NoneDue 0 ∧ (lingering 1).lines.sides[sideOf 2].timer = some (0 + 1) :=
  ⟨only_change _ _ _ (by decide +kernel) (by decide +kernel) (by decide +kernel) (by decide +kernel), by decide +kernel,
    by decide, only_change _ _ _ (by decide +kernel) (by decide +kernel) (by decide +kernel) (by decide +kernel),
    none_due _ _ (by decide +kernel) (by decide +kernel) (by decide +kernel) (by decide +kernel), by decide +kernel,
    only_change _ _ _ (by decide +kernel) (by decide +kernel) (by decide +kernel) (by decide +kernel),
    none_due _ _ (by decide +kernel) (by decide +kernel) (by decide +kernel) (by decide +kernel), by decide +kernel,
    by decide +kernel, by decide +kernel,
    only_change _ _ _ (by decide +kernel) (by decide +kernel) (by decide +kernel) (by decide +kernel),
    only_change _ _ _ (by decide +kernel) (by decide +kernel) (by decide +kernel) (by decide +kernel), by decide +kernel,
    none_due _ _ (by decide +kernel) (by decide +kernel) (by decide +kernel) (by decide +kernel),
    none_due _ _ (by decide +kernel) (by decide +kernel) (by decide +kernel) (by decide +kernel),
    none_due _ _ (by decide +kernel) (by decide +kernel) (by decide +kernel) (by decide +kernel),
    only_change _ _ _ (by decide +kernel) (by decide +kernel) (by decide +kernel) (by decide +kernel),
    none_due _ _ (by decide +kernel) (by decide +kernel) (by decide +kernel) (by decide +kernel), by decide +kernel⟩

/-- EveryLineIsSampledEachMillisecond: REVERSE and CAB_B change, with a door open on each side; and the flag then rises. -/
theorem meets_reverse : (pending2 (raised (raised live 2) 7) 13).onlyChange 8324 13
    ∧ (pending2 (raised (raised live 2) 7) 13).NoneDue 0
    ∧ (pending2 (raised (raised live 2) 7) 12).onlyChange 4228 12 ∧ (pending2 (raised (raised live 2) 7) 12).NoneDue 0
    ∧ (after (exec (.partTimeStep 8324 []) (pending2 (raised (raised live 2) 7) 13))).lines.hidden = true :=
  ⟨only_change _ _ _ (by decide +kernel) (by decide +kernel) (by decide +kernel) (by decide +kernel),
    none_due _ _ (by decide +kernel) (by decide +kernel) (by decide +kernel) (by decide +kernel),
    only_change _ _ _ (by decide +kernel) (by decide +kernel) (by decide +kernel) (by decide +kernel),
    none_due _ _ (by decide +kernel) (by decide +kernel) (by decide +kernel) (by decide +kernel), by decide +kernel⟩
/-- R141: REVERSE_HIDDEN names the preferred screen, S1 from pin reset, and counts both doors. -/
theorem test_reverse_hidden :
    (after (exec (.partTimeStep 8324 []) (pending2 (raised (raised live 2) 7) 13))).notices.records.map
        (fun r => (r.kind, r.subject, r.value)) = [(.reverseHidden, 1, 2)] := by decide +kernel
/-- R130: at the opening of a door without a stream, DOOR_BLIND comes before REVERSE_HIDDEN. -/
theorem test_blind_then_hidden :
    (after (exec (.partTimeStep 8324 []) (pending2 (raised (raised live 2) 13) 7))).notices.records.map
        (fun r => (r.kind, r.subject, r.value)) = [(.doorBlind, 7, 1), (.reverseHidden, 1, 2)] := by decide +kernel

theorem lowest_one (s : State) (h : s.holds.groups = []) : s.LowestFreeId 1 :=
  ⟨by omega, by omega, by rw [h]; simp, fun k h1 h2 => by omega⟩

/-- ObstructionHoldsOpenDoors: OBSTRUCT rises with door 2 open, and with no door open. -/
theorem meets_obstruct : (pending2 (raised live 2) 14).onlyChange 16388 14 ∧ (16388 : BitVec 15).getLsbD 14 = true
    ∧ (pending2 live 14).onlyChange 16384 14 ∧ (∀ d, (pending2 live 14).lines.doorOpen d = false)
    ∧ (pending2 (raised live 2) 14).transit.mode = .active
    ∧ (∀ k : Fin 12, (pending2 (raised live 2) 14).lines.doorOpen k = true ↔ k = 2)
    ∧ (∀ j : Fin 16, ((pending2 (raised live 2) 14).stream j).cfg.role = .door
        ∧ ((pending2 (raised live 2) 14).stream j).cfg.door = (2 : Fin 12).val
        ∧ ((pending2 (raised live 2) 14).stream j).cfg.enabled = true ↔ j = 3)
    ∧ (pending2 (raised live 2) 14).LowestFreeId 1
    ∧ 0 < (pending2 (raised live 2) 14).holdSize 3 (pending2 (raised live 2) 14).holds.pre
    ∧ (pending2 (raised live 2) 14).NoneDue 0 ∧ (pending2 live 14).NoneDue 0 :=
  ⟨only_change _ _ _ (by decide +kernel) (by decide +kernel) (by decide +kernel) (by decide +kernel), by decide,
    only_change _ _ _ (by decide +kernel) (by decide +kernel) (by decide +kernel) (by decide +kernel), by decide +kernel,
    by decide +kernel, by decide +kernel, by decide +kernel, lowest_one _ (by decide +kernel), by decide +kernel,
    none_due _ _ (by decide +kernel) (by decide +kernel) (by decide +kernel) (by decide +kernel),
    none_due _ _ (by decide +kernel) (by decide +kernel) (by decide +kernel) (by decide +kernel)⟩

/-- ObstructionHoldsOpenDoors: two open doors in ACTIVE, in DRAINING entered from ACTIVE and from PASS. -/
def obstructed : State := pending2 (raised (raised cameras 2) 4) 14
theorem meets_obstruct_doors : obstructed.onlyChange 16404 14 ∧ obstructed.NoneDue 0 ∧ obstructed.transit.mode = .active
    ∧ ([2, 4] : List (Fin 12)).Pairwise (fun a b => a < b)
    ∧ (∀ d, d ∈ ([2, 4] : List (Fin 12)) ↔ obstructed.lines.doorOpen d = true)
    ∧ (draining .softReset).transit.mode = .draining ∧ (draining .softReset).transit.drainedFrom = .active
    ∧ ({ (draining .softReset).transit with drainedFrom := .pass } : Transit).drainedFrom ≠ .active :=
  ⟨only_change _ _ _ (by decide +kernel) (by decide +kernel) (by decide +kernel) (by decide +kernel),
    none_due _ _ (by decide +kernel) (by decide +kernel) (by decide +kernel) (by decide +kernel), by decide +kernel, by decide,
    by decide +kernel, by decide +kernel, by decide +kernel, nofun⟩
/-- R152: door 2 is held, and door 4, whose stream has no candidate, is refused, in that order. -/
theorem test_obstruct_in_turn :
    (after (exec (.partTimeStep 16404 []) obstructed)).notices.records.map (fun r => (r.kind, r.subject))
      = [(.holdMade, 1), (.holdClamped, 1), (.holdRefused, 5)] := by decide +kernel

/-- TimersExpireWhenDue: each timer on its value, one off it, and stopped. -/
theorem meets_timers : (live.stream 3).cap.timer = some 205 ∧ (live.stream 3).cap.freshness = .live
    ∧ ({ live with time := 205 } : State).time = 205 ∧ (some 205 : Option Time) ≠ some 204
    ∧ ({ live.lines with sides := modAt live.lines.sides 1 (fun _ => ⟨some 205, [7]⟩) } : LineMonitor).sides[(1 : Fin 2)].timer
      = some 205
    ∧ ({ live.notices with timer := some 205 } : NoticeQueue).timer = some 205
    ∧ ((onScreen { openFrame with timer := some 205 }).screen 0).frame = some { openFrame with timer := some 205 }
    ∧ openFrame.expired = false
    ∧ ((onScreen { openFrame with timer := some 205, inFlight := 0 }).screen 0).frame
      = some { openFrame with timer := some 205, inFlight := 0 }
    ∧ live.lines.sides[(1 : Fin 2)].timer = none ∧ live.notices.timer = none ∧ (live.screen 0).frame = none := by
  decide +kernel

/-- Eight groups, one of each id, of one slot each. -/
def full : State :=
  { live with holds := { live.holds with groups := (List.range 8).map (fun k => ⟨k + 1, .command, 3, 4, [k], 0⟩) } }

/-- HoldIsMadeOrRefused: a hold that is made, one with no free id, and one with no candidate; and PASS. -/
theorem meets_hold : live.hears ∧ live.transit.mode = .active ∧ live.LowestFreeId 1 ∧ 0 < live.holdSize 3 4
    ∧ configured.hears ∧ configured.transit.mode ≠ .active
    ∧ full.hears ∧ (∀ k ∈ List.range' 1 8, ∃ g ∈ full.holds.groups, g.id = k)
    ∧ live.holdSize 4 1 = 0 ∧ live.pool.candidates 4 = [] :=
  ⟨live_hears, by decide +kernel, lowest_one _ (by decide +kernel), by decide +kernel, configured_hears, by decide +kernel,
    hears_of _ (by decide +kernel) (by decide +kernel), by decide +kernel, by decide +kernel, by decide +kernel⟩

/-- HoldIsMadeOrRefused: a refusal with code 1 and one with code 2; a slot that is held, one that is not, and none. -/
theorem meets_hold_refused : full.HoldRefused 3 4 1 ∧ live.HoldRefused 4 1 2
    ∧ (held.pool.slots[0]?).map Slot.hold = some (some 1) ∧ (held.pool.slots[5]?).map Slot.hold = some none
    ∧ (held.pool.slots[6]?).isNone = true :=
  ⟨.inl ⟨fun k h1 h2 => (show ∀ k ∈ List.range' 1 8, ∃ g ∈ full.holds.groups, g.id = k by decide +kernel) k
      (List.mem_range'_1.2 (by omega)), rfl⟩,
    .inr ⟨⟨1, lowest_one _ (by decide +kernel)⟩, by decide +kernel, by decide +kernel⟩, by decide +kernel, by decide +kernel,
    by decide +kernel⟩

/-- ReleaseAndReview: an id with a group, and one without; the index of its one slot, and the next. -/
theorem meets_release : held.hears ∧ held.holds.groups = [] ++ group :: [] ∧ group.id = (1 : Byte).toNat
    ∧ (∀ y ∈ ([] ++ [] : List Group), y.id ≠ (1 : Byte).toNat) ∧ (∀ g ∈ held.holds.groups, g.id ≠ (9 : Byte).toNat)
    ∧ group.slots[(0 : Byte).toNat]? = some 0 ∧ group.slots.length ≤ (1 : Byte).toNat :=
  ⟨hears_of _ (by decide +kernel) (by decide +kernel), by decide +kernel, rfl, by simp, by decide +kernel, rfl, by decide⟩

/-- ReviewReadAutoReleases: under the mapping in force, with the flag set and clear, and under an older mapping. -/
theorem meets_review_return (auto : Bool) (n : Mapping) (_h : n ∈ [(⟨4, 1, 0, 0, true⟩ : Mapping), ⟨3, 1, 0, 0, true⟩]) :
    ∃ pre x post,
    (reading (mapped true) ⟨0, readAt 0x304B030 1, .review n.slot 307248 307264 n.serial auto, [⟨7, .okay⟩]⟩).transit.reads
      = pre ++ x :: post
    ∧ (∀ y ∈ pre, y.req.id ≠ 2) ∧ x.req.id = 2 ∧ x.service = .review n.slot 307248 307264 n.serial auto
    ∧ (mapped true).holds.mapping = some ⟨4, 1, 0, 0, true⟩ ∧ x.req.beats ≤ x.beats.length
    ∧ (mapped true).transit.mode ≠ .draining ∧ (mapped true).transit.waiting = [] ∧ 307248 < 307264
    ∧ 307264 ≤ 307248 + 16 * x.req.beats ∧ (∀ b ∈ x.beats, b.resp = .okay) :=
  ⟨[], _, [], rfl, by simp, rfl, rfl, by decide +kernel, by show 1 ≤ 1; omega, by decide +kernel, by decide +kernel, by omega,
    by show 307264 ≤ 307248 + 16 * 1; omega, by simp⟩

/-- ReviewReadAutoReleases: with no mapping; short of the last byte; with a beat answered ERROR. -/
theorem meets_review_kept (resp : Resp) : ∃ pre x post,
    (reading held ⟨0, readAt 0x304B020 1, .review 0 307232 307264 4 true, [⟨7, resp⟩]⟩).transit.reads = pre ++ x :: post
    ∧ (∀ y ∈ pre, y.req.id ≠ 2) ∧ x.req.id = 2 ∧ x.service = .review 0 307232 307264 4 true ∧ x.req.beats ≤ x.beats.length
    ∧ held.holds.mapping = none ∧ ¬(307264 ≤ 307232 + 16 * x.req.beats) ∧ (∃ b ∈ x.beats, b.resp = resp)
    ∧ held.transit.mode ≠ .draining ∧ held.transit.waiting = [] :=
  ⟨[], _, [], rfl, by simp, rfl, rfl, by show 1 ≤ 1; omega, by decide +kernel,
    by show ¬(307264 ≤ 307232 + 16 * 1); omega, ⟨_, List.mem_singleton.2 rfl, rfl⟩, by decide +kernel, by decide +kernel⟩

/-- NoticesAreTakenByTheirRule: a disabled kind; a merge at 254 repeats and none at 255; 31 records, 32, and none. -/
theorem meets_notices : ({ live.notices with enable := 0 } : NoticeQueue).enable.getLsbD (Kind.guardHit).code = false
    ∧ live.notices.enable.getLsbD (Kind.guardHit).code = true ∧ live.notices.records = [] ∧ live.notices.lost = 0
    ∧ (noted live [note .holdMade 1, { note .guardHit 0 with repeats := 254 }]).notices.records
      = [note .holdMade 1] ++ [{ note .guardHit 0 with repeats := 254 }]
    ∧ (Kind.guardHit).coalescing = true ∧ (note .guardHit 0).kind = .guardHit ∧ (note .guardHit 0).subject = 0
    ∧ (254 < 255 ∧ 255 ≤ ({ note .guardHit 0 with repeats := 255 } : Notice).repeats)
    ∧ (List.replicate 31 (note .holdMade 1)).length < 32 ∧ 32 ≤ (List.replicate 32 (note .holdMade 1)).length
    ∧ (Kind.holdMade).coalescing = false := by decide +kernel

/-- NoticeLevelReports, NoticesAreTakenAndSet: an empty queue, and one of two records, the second short of its linger and
past it. -/
theorem meets_take : live.hears ∧ live.notices.records = []
    ∧ (noted live [note .holdMade 1, note .streamStale 2]).hears
    ∧ (noted live [note .holdMade 1, note .streamStale 2]).notices.records
      = (noted live [note .holdMade 1, note .streamStale 2]).notices.records.take (min 8 (max 1 (0 : Byte).toNat))
        ++ [note .streamStale 2]
    ∧ (((live.notices.linger : Nat) ≤ ((23 : Time) - 3).toNat) ∧ ((22 : Time) - 3).toNat < live.notices.linger) :=
  ⟨live_hears, by decide +kernel, hears_of _ (by decide +kernel) (by decide +kernel), by decide +kernel, by decide +kernel⟩
theorem meets_set_notice : live.hears ∧ 255 < 256 ∧ 65535 < 65536 ∧ 4294967295 < 4294967296
    ∧ (noted live [note .holdMade 1]).notices.records ≠ []
    ∧ min 32 (max 1 0) ≤ (noted live [note .holdMade 1]).notices.records.length :=
  ⟨live_hears, by decide, by decide, by decide, by decide +kernel, by decide +kernel⟩

/-- FramesAreTakenByTheirForm: each kind of bad frame, at 250 and 251 bytes; under reset, while PENDING. -/
theorem meets_malformed : requestBody (.hold [3, 3, 2]) = some [3, 3, 2] ∧ requestBody (.commit []) = some []
    ∧ live.hears ∧ ({ live with inReset := true } : State).inReset = true
    ∧ (draining .softReset).port.buffer = .pending .softReset ∧ (draining .softReset).inReset = false
    ∧ ((3 : Byte).toNat ≠ ([3, 2] : List Byte).length)
    ∧ ((251 : Byte).toNat = (List.replicate 251 (0 : Byte)).length ∧ 250 < (251 : Byte).toNat)
    ∧ (parameterLength (.hold [2, 3, 2]) = some 3 ∧ ([3, 2] : List Byte).length ≠ 3)
    ∧ (∀ n : Byte, ([0, 0, 0, 0, 1, 7] : List Byte)[4]? = some n → ([0, 0, 0, 0, 1, 7] : List Byte).length ≠ 5 + 15 * n.toNat) :=
  ⟨rfl, rfl, live_hears, rfl, rfl, rfl, by decide, by decide +kernel, by decide, by
    intro n h
    have : (1 : Byte) = n := Option.some.inj h
    subst this
    decide⟩

/-- FramesAreTakenByTheirForm: a byte; a code beside each of the table's ends. -/
theorem meets_response : 1 ≤ 1 ∧ live.inReset = false ∧ ¬((0x0F : Byte).toNat ∈ commandCodes)
    ∧ ¬((0x47 : Byte).toNat ∈ commandCodes) ∧ live.hears ∧ (draining .softReset).port.buffer = .pending .softReset :=
  ⟨by omega, rfl, by decide, by decide, live_hears, rfl⟩

/-- PoolAndScreenSettings: in PASS and in ACTIVE; the pool of section 1.5 and the widest operands. -/
theorem meets_pool : configured.hears ∧ live.hears ∧ live.transit.mode = .active ∧ configured.transit.mode ≠ .active
    ∧ (0x40000000 % 4096 = 0 ∧ 0x40000000 ≤ 68719476735 ∧ 0x385000 % 4096 = 0 ∧ 2 ≤ 12 ∧ 12 ≤ 64)
    ∧ (256 ^ 5 - 1 < 256 ^ 5 ∧ 256 ^ 4 - 1 < 256 ^ 4 ∧ 255 < 256 ∧ 65535 < 65536)
    ∧ ((live.screen 0).isSet = true ∧ (live.screen 1).isSet = false) :=
  ⟨configured_hears, live_hears, rfl, by decide +kernel, by decide, by decide, by decide +kernel⟩

/-- `configured` with a lens of stream 3 that is CLEAN and fewer than 8 learned tiles. -/
def unlearned : State := with3 configured (fun st => { st with lens := { st.lens with state := .clean } })

theorem camera_takeable : ∀ c ∈ [camera, { camera with exRows := 1 }], c.Takeable := by
  simp [StreamConfig.Takeable, camera]
/-- SetStreamReplacesTheConfiguration: a role another stream has; ACTIVE; PASS with and without the loss of a judgement. -/
theorem meets_set_stream_forms : off.hears ∧ off.transit.mode = .active
    ∧ (off.stream 3).cfg = { camera with enabled := false }
    ∧ (∀ age ∈ [(0, 20), (19, 20), (2000, 2000), (65535, 2000)], age.2 = min 2000 (max 20 age.1) ∧ age.1 < 65536)
    ∧ ({ camera with role := .none, enabled := false, door := 255, slotList := [7, 7] } : StreamConfig).role = .none
    ∧ configured.transit.mode ≠ .active ∧ (configured.stream 4).cfg.exRows = 0 :=
  ⟨hears_of _ (by decide +kernel) (by decide +kernel), by decide +kernel, by decide +kernel, by decide, rfl,
    by decide +kernel, by decide +kernel⟩
theorem meets_set_stream : configured.hears ∧ live.hears ∧ unlearned.hears
    ∧ camera.Takeable ∧ ({ camera with exRows := 1 } : StreamConfig).Takeable
    ∧ configured.roleTaken 4 camera ∧ ¬configured.roleTaken 3 camera ∧ ¬live.roleTaken 3 camera
    ∧ ¬unlearned.roleTaken 3 { camera with exRows := 1 }
    ∧ (live.stream 3).cfg.enabled = true ∧ configured.transit.mode ≠ .active
    ∧ (configured.stream 3).lens.state = .learning ∧ (unlearned.stream 3).lens.state ≠ .learning
    ∧ (unlearned.stream 3).cfg.exRows ≠ ({ camera with exRows := 1 } : StreamConfig).exRows
    ∧ countTiles { camera with exRows := 1 } (unlearned.stream 3).tiles Tile.past < 8 := by
  have free : ∀ s c, (∀ j ∈ List.finRange 16, j ≠ (3 : Fin 16) → (s : State).streams[j].cfg.role = .none) →
      c ∈ [camera, { camera with exRows := 1 }] → ¬s.roleTaken 3 c := by
    rintro s c h hc ⟨j, hj, hr, -⟩
    rw [show (s.stream j).cfg.role = .none from h j (List.mem_finRange j) hj] at hr
    simp only [List.mem_cons, List.not_mem_nil, or_false] at hc
    rcases hc with rfl | rfl <;> exact absurd hr (by decide)
  exact ⟨configured_hears, live_hears, hears_of _ (by decide +kernel) (by decide +kernel), camera_takeable _ (List.mem_of_getElem? (i := 0) rfl),
    camera_takeable _ (List.mem_of_getElem? (i := 1) rfl), ⟨3, by decide, by decide +kernel, .inl ⟨rfl, by decide +kernel⟩⟩,
    free _ _ (by decide +kernel) (by simp), free _ _ (by decide +kernel) (by simp), free _ _ (by decide +kernel) (by simp),
    by decide +kernel, by decide +kernel, by decide +kernel, by decide +kernel, by decide +kernel, by decide +kernel⟩

/-- SetStreamReplacesTheConfiguration: parameters just past each limit, and a slot list that repeats a number. -/
theorem meets_bad_param : configured.hears ∧ live.hears ∧ (15 < 16 ∧ 16 < 256) ∧ (4 < 5 ∧ 5 < 256) ∧ (319 < 320 ∧ 2048 < 2052)
    ∧ 322 % 4 ≠ 0 ∧ (239 < 240 ∧ 1536 < 1537) ∧ (11 < 12 ∧ 1 < 2 ∧ 6 < 7) ∧ 0x1000010 % 4096 ≠ 0
    ∧ ¬(([4, 5, 4, 0, 0, 0] : List Byte).take 3).Nodup ∧ ([4, 5, 4, 0, 0, 0] : List Byte).length = 6
    ∧ (68719476736 ≤ 68719476736 ∧ 68719476736 < 256 ^ 5) :=
  ⟨configured_hears, live_hears, by decide, by decide, by decide, by decide, by decide, by decide, by decide, by decide,
    by decide, by decide⟩

/-- HoldIsMadeOrRefused, PoolAndScreenSettings, EnableAndDisable: the first numbers past the streams and the screens.
LayoutViewAndHoldSettings: the first layout and the first pane count past theirs, and panes just past each limit. -/
theorem meets_bad_numbers : 15 < (16 : Byte).toNat ∧ (1 < 2 ∧ 2 < 256) ∧ 6 < (7 : Byte).toNat
    ∧ (List.replicate 105 (0 : Byte)).length = 15 * (7 : Byte).toNat
    ∧ pane.parameters = [] ++ (leBytes 1 3 ++ leBytes 2 0 ++ leBytes 2 0 ++ leBytes 2 320 ++ leBytes 2 240 ++ leBytes 1 1
        ++ leBytes 2 0 ++ leBytes 2 0 ++ leBytes 1 2) ++ []
    ∧ ((live.stream 3).cfg.w < 1 + 320 ∧ ¬((live.stream 3).cfg.w < 0 + 320) ∧ (live.stream 3).cfg.h < 1 + 240)
    ∧ (320 % 3 ≠ 0 ∧ 4 < 5 ∧ 3 < 4 ∧ 15 < 16) := by decide +kernel

/-- EnableAndDisable: two writes held behind a frame with its end mark, in ACTIVE. -/
def holding : State :=
  writing (with3 (filling { frame with endMark := true } 1) (fun st => { st with
    cap := { st.cap with heldWrites := [⟨7, 1, 0, [⟨0xFFFF, 0⟩]⟩, ⟨8, 1, 16, [⟨0xFFFF, 0⟩]⟩] } }))
    ⟨7, writeAt 0 0, .held 3, false, none⟩
theorem meets_disable_held : holding.hears ∧ holding.transit.mode = .active ∧ (holding.stream 3).cfg.enabled = true
    ∧ (holding.stream 3).cap.heldWrites ≠ [] ∧ 0 < (holding.stream 3).cap.awaiting :=
  ⟨hears_of _ (by decide +kernel) (by decide +kernel), by decide +kernel, by decide +kernel, by decide +kernel,
    by decide +kernel⟩
/-- R20, R31: the held write is absorbed with OKAY, both are orphans, and the slot is kept for the awaited response. -/
theorem test_disable_held :
    (after (exec (.disableStream [1, 3]) holding)).transit.writes.map WriteTxn.response = [some .okay]
    ∧ ((after (exec (.disableStream [1, 3]) holding)).stream 3).cap.orphans = 2
    ∧ ((after (exec (.disableStream [1, 3]) holding)).stream 3).cap.abandoned = some 1 := by decide +kernel

/-- EnableAndDisable: a stream with no role, one disabled and one enabled, in PASS and in ACTIVE. -/
theorem meets_enable : live.hears ∧ configured.hears ∧ (live.stream 4).cfg.role = .none
    ∧ (configured.stream 3).cfg.role ≠ .none ∧ configured.transit.mode ≠ .active
    ∧ off.hears ∧ (off.stream 3).cfg.role ≠ .none ∧ off.transit.mode = .active ∧ (off.stream 3).cfg.enabled = false
    ∧ windowOfStream off.transit.windows 3 = some ⟨.capture 3, 0x1000000, 311296⟩
    ∧ (configured.stream 3).cfg.enabled = true ∧ (live.stream 3).cfg.enabled = true ∧ live.transit.mode = .active
    ∧ (filling frame 2).hears ∧ ((filling frame 2).stream 3).cap.fill = some frame
    ∧ ((filling frame 2).stream 3).cap.heldWrites = []
    ∧ (∀ d : Fin 12, live.lines.doorOpen d = false) ∧ (raised live 2).lines.doorOpen 2 = true
    ∧ windowOfStream live.transit.windows 3 = some ⟨.capture 3, 0x1000000, 311296⟩
    ∧ (64 + 4 * 320 * 240 ≤ 311296 ∧ live.pool.size = 311296) ∧ windowOfStream [] 3 = none
    ∧ (live.stream 3).cap.heldWrites = [] :=
  ⟨live_hears, configured_hears, by decide +kernel, by decide +kernel, by decide +kernel,
    hears_of _ (by decide +kernel) (by decide +kernel), by decide +kernel, by decide +kernel, by decide +kernel,
    by decide +kernel, by decide +kernel, by decide +kernel, by decide +kernel,
    hears_of _ (by decide +kernel) (by decide +kernel), by decide +kernel, by decide +kernel, by decide +kernel,
    by decide +kernel, by decide +kernel, by decide +kernel, rfl, by decide +kernel⟩

/-- LayoutViewAndHoldSettings: the pane of `showing`, with the layout latched from and not; the last legal numbers and the next. -/
theorem meets_layout : live.hears ∧ [pane].length ≤ 6
    ∧ (∀ p ∈ [pane], p.sx < 65536 ∧ p.sy < 65536 ∧ p.sw < 65536 ∧ p.sh < 65536 ∧ p.dx < 65536 ∧ p.dy < 65536
        ∧ 1 ≤ p.k ∧ p.k ≤ 4 ∧ p.sw ≠ 0 ∧ p.sh ≠ 0 ∧ p.sw % p.k = 0 ∧ p.sh % p.k = 0
        ∧ p.sx + p.sw ≤ (live.stream p.stream).cfg.w ∧ p.sy + p.sh ≤ (live.stream p.stream).cfg.h)
    ∧ (onScreen openFrame).hears ∧ ((onScreen openFrame).screen 0).frame = some openFrame
    ∧ openFrame.kind = .requested ∧ openFrame.layout = some 0
    ∧ ((live.screen 0).frame = none ∧ (live.screen 1).frame = none)
    ∧ ((1 : Byte).toNat = (1 : Fin 2).val ∧ (15 : Byte).toNat = (15 : Fin 16).val)
    ∧ (1 < (2 : Byte).toNat ∧ 15 < (16 : Byte).toNat) :=
  ⟨live_hears, by decide, by decide +kernel, hears_of _ (by decide +kernel) (by decide +kernel), by decide +kernel, rfl, rfl,
    by decide +kernel, by decide, by decide⟩

/-- LayoutViewAndHoldSettings: a door open and none; both screens and no screen. -/
theorem meets_views : live.hears ∧ (raised live 2).hears ∧ 65535 < 65536 ∧ (raised live 2).lines.doorOpen 2 = true
    ∧ (∀ d, live.lines.doorOpen d = false) ∧ 1 < (2 : Byte).toNat ∧ (1 : Byte).toNat = (1 : Fin 2).val :=
  ⟨live_hears, hears_of _ (by decide +kernel) (by decide +kernel), by omega, by decide +kernel, by decide +kernel, by decide,
    by decide⟩

/-- SoilingAndBaselineCommands: settings that are taken, and at each bound that refuses. -/
theorem meets_soiling : live.hears ∧ 128 < 65536
    ∧ ¬(1023 < 128 ∨ 1023 < 192 ∨ 256 < 64 ∨ 256 < 80 ∨ 192 ≤ 128 ∨ 80 < 64 + 16 ∨ (25 : Byte).toNat ≤ (24 : Byte).toNat)
    ∧ 1023 < 1024 ∧ 79 < 64 + 16 ∧ (24 : Byte).toNat ≤ (24 : Byte).toNat
    ∧ 15 < (16 : Byte).toNat ∧ (15 : Byte).toNat = (15 : Fin 16).val :=
  ⟨live_hears, by omega, by decide, by omega, by omega, by decide, by decide, by decide⟩

/-- A state whose COMMIT finds slot 6 of 6 in a slot list. -/
def overrun : State := with3 configured (fun st => { st with cfg := { camera with slotList := [0, 6] } })

/-- `configured` with two more streams: what each of the later checks finds. -/
def shared : State :=
  { configured with streams := modAt configured.streams 5 (fun st => { st with
      cfg := { camera with door := 5, base := 0x8000000, slotList := [4, 2] } }) }

/-- CommitChecksTheConfiguration: ACTIVE; and a state for each of the seven checks, in order: no pool, slot 6 of 6, slot 2 of
two streams, a window at the top, two windows at one base, a dump on the window, a frame above the slot size. -/
theorem meets_commit_checks : live.hears ∧ live.transit.mode = .active ∧ overrun.hears ∧ overrun.transit.mode ≠ .active
    ∧ configured.commitFailure = none
    ∧ State.reset.commitFailure = some (.state, 255, 255) ∧ overrun.commitFailure = some (.badParam, 6, 3)
    ∧ shared.commitFailure = some (.inUse, 2, 3)
    ∧ (with3 configured (fun st => { st with cfg := { camera with base := 0xFFFFFF000 } })).commitFailure
      = some (.badAddress, 3, 255)
    ∧ (with3 configured (fun st => { st with cfg := { camera with base := 0x2000000 } })).commitFailure = some (.overlap, 3, 16)
    ∧ ({ configured with port := { configured.port with dump := some ⟨3, 4, 0x1000000, 3, none, 0, false, 0⟩ } } : State).commitFailure
      = some (.badAddress, 3, 254)
    ∧ (with3 configured (fun st => { st with cfg := { camera with w := 640 } })).commitFailure = some (.tooLarge, 3, 255) :=
  ⟨live_hears, by decide +kernel, hears_of _ (by decide +kernel) (by decide +kernel), by decide +kernel, by decide +kernel,
    by decide +kernel, by decide +kernel, by decide +kernel, by decide +kernel, by decide +kernel, by decide +kernel,
    by decide +kernel⟩
/-- ... and the least pair of the first check. -/
theorem meets_least_pair : ∃ p, State.reset.commitChecks[0]? = some (.state, p) ∧ LeastPair p 255 255 :=
  ⟨_, rfl, ⟨rfl, rfl, rfl⟩, fun _ _ h => .inr ⟨h.2.1.symm, Nat.le_of_eq h.2.2.symm⟩⟩

/-- ModeCommandsEnterDraining: a read in flight, in PASS and in ACTIVE; and a held group. -/
theorem meets_draining : (reading configured ⟨0, readAt 16 1, .forwarded, []⟩).hears
    ∧ (reading configured ⟨0, readAt 16 1, .forwarded, []⟩).transit.reads ≠ []
    ∧ (reading configured ⟨0, readAt 16 1, .forwarded, []⟩).transit.mode ≠ .active
    ∧ (reading configured ⟨0, readAt 16 1, .forwarded, []⟩).commitFailure = none
    ∧ (reading live ⟨0, readAt 16 1, .forwarded, []⟩).hears
    ∧ (reading live ⟨0, readAt 16 1, .forwarded, []⟩).transit.mode = .active
    ∧ (reading live ⟨0, readAt 16 1, .forwarded, []⟩).holds.groups = []
    ∧ held.hears ∧ held.transit.mode = .active ∧ held.holds.groups ≠ [] :=
  ⟨hears_of _ (by decide +kernel) (by decide +kernel), by decide +kernel, by decide +kernel, by decide +kernel,
    hears_of _ (by decide +kernel) (by decide +kernel), by decide +kernel, by decide +kernel,
    hears_of _ (by decide +kernel) (by decide +kernel), by decide +kernel, by decide +kernel⟩

/-- CommitEntersActive, ReturnAndSoftResetLeaveActive: nothing in flight. -/
theorem meets_immediate : configured.hears ∧ configured.transit.mode ≠ .active ∧ configured.commitFailure = none
    ∧ (∀ s ∈ [configured, live], s.transit.reads = [] ∧ s.transit.writes = [] ∧ s.transit.waiting = [])
    ∧ live.hears ∧ live.transit.mode = .active ∧ live.holds.groups = [] :=
  ⟨configured_hears, by decide +kernel, by decide +kernel, by decide +kernel, live_hears, by decide +kernel,
    by decide +kernel⟩

theorem live_hidden_exact : live.HiddenFlagExact := fun _ => by decide +kernel

/-- DumpStarts: streams 3 and 4 to 50000000 and to the end of memory; the range on the pool; an evaluation of stream 3. -/
theorem meets_dump_start : live.hears ∧ 3 < 256 ∧ 4 = min 15 4 ∧ (3 : Fin 16).val = 3 ∧ 3 ≤ 4 ∧ 0x50000000 % 16 = 0
    ∧ 0x50000000 < 256 ^ 5 ∧ 68719475936 + 400 * (4 - 3 + 1) ≤ 68719476736 ∧ 68719476736 < 68719475952 + 400 * (4 - 3 + 1)
    ∧ (∀ w ∈ live.transit.windows, ¬(w.meets 0x50000000 (0x50000000 + 800) = true))
    ∧ (∃ w ∈ live.transit.windows, w.base ≤ 0x41C7FFF ∧ 0x41C7FFF < w.base + w.extent ∧ 0x41C7FF0 ≤ 0x41C7FFF)
    ∧ live.port.dump = none ∧ live.evals.current = none
    ∧ (evaluating (record 0 0) false).evals.current.map (fun x => x.frame.stream) = some 3 :=
  ⟨live_hears, by omega, by decide, rfl, by omega, by decide, by decide, by decide, by decide, by decide +kernel,
    by decide +kernel, by decide +kernel, by decide +kernel, by decide +kernel⟩

/-- A dump of streams 3 and 4 that has written stream i's record; a dump write issued. -/
def dumping (i : Fin 16) (awaiting : Nat) (gone : Bool) : State :=
  issued { live with port := { live.port with dump := some ⟨3, 4, 0x50000000, i, some [], awaiting, false, 0⟩ } }
    ⟨.dump gone, .write, 9, 0, .incrementing, 9, [], 1⟩

/-- DumpWritesAreAnswered: two writes awaited and one; the first stream, the last, and an abandoned write. -/
theorem meets_dump_write (i : Fin 16) (n : Nat) (gone : Bool) : ∃ pre r post,
    (dumping i n gone).transit.downIssued = pre ++ r :: post ∧ (pre.filter DownReq.isDump).length = 0
      ∧ r.owner = .dump gone ∧ r.left = 1
      ∧ (dumping i n gone).port.dump = some ⟨3, 4, 0x50000000, i, some [], n, false, 0⟩
      ∧ (4 : Fin 16).val = (3 : Fin 16).val + 1 :=
  ⟨[], _, [], rfl, rfl, rfl, rfl, rfl, rfl⟩

/-- ReadoutsChangeNothing: the last legal numbers and the next. -/
theorem meets_readouts : live.hears ∧ (1 : Byte).toNat = (1 : Fin 2).val ∧ (15 : Byte).toNat = (15 : Fin 16).val
    ∧ 15 < (16 : Byte).toNat ∧ 3 < (4 : Byte).toNat ∧ 1 < (2 : Byte).toNat :=
  ⟨live_hears, by decide, by decide, by decide, by decide, by decide⟩

/-- ReadoutsChangeNothing: a slot in its stream's content list and not in the free list, and one at place 1 of the latter. -/
theorem meets_places : PlaceBytes live.pool.free 0 [0, 0] ∧ PlaceBytes live.pool.free 2 [1, 1]
    ∧ PlaceBytes live.pool.content[(3 : Fin 16)] 0 [1, 0] ∧ (live.pool.slots[0]?).isSome = true :=
  ⟨.inl ⟨by decide, rfl⟩, .inr ⟨[1], [3, 4, 5], by decide, by decide, rfl⟩,
    .inr ⟨[], [], by decide +kernel, by simp, rfl⟩, by decide +kernel⟩

/-- PinResetClearsThePart: RESET_N low and high. -/
theorem meets_reset : ({ live with inReset := true } : State).inReset = true ∧ live.inReset = false
    ∧ (readAt 0 1).wf = true ∧ (writeAt 0 0).wf = true := by decide

/-- A part in use: a live stream, a held slot, a notice queued and shown on NTF_N, a read waiting to be accepted. -/
def busy : State :=
  { held with
    notices := { held.notices with records := [note .holdMade 1], asserted := true }
    pending := [.upstreamReadAccepted (readAt 0x1000000 1)] }

/-- The kept properties: a part in use has each of them, and its step is no idle one. -/
theorem meets_kept_transit : busy.InFlightBounded ∧ busy.MapEmptyInPass ∧ busy.DrainConsistent :=
  ⟨⟨by decide +kernel, by decide +kernel⟩, ⟨by decide +kernel, by decide +kernel⟩, by decide +kernel, by decide +kernel,
    fun _ => nofun, by decide +kernel⟩
theorem meets_kept_streams : busy.FreeListExact ∧ busy.FreshnessTimed ∧ busy.EvaluationQueued :=
  ⟨exact_of _ (by decide +kernel) (by decide +kernel) (by decide +kernel), by unfold State.FreshnessTimed; decide +kernel,
    by decide +kernel, by decide +kernel⟩
theorem meets_kept_lens : busy.LensNeedsEightTiles := by unfold State.LensNeedsEightTiles; decide +kernel
theorem meets_kept_energies : busy.EnergiesBounded := by
  have none : ∀ i ∈ List.finRange 16, (busy.stream i).acc.carried = none := by decide +kernel
  refine ⟨by decide +kernel, by decide +kernel, ?_, ?_, ?_⟩
  · intro i y p h
    rw [none i (List.mem_finRange i)] at h
    exact nomatch h
  · exact fun r h => nomatch (show r ∈ ([] : List FrameRecord) from h)
  · exact fun x h => nomatch (show Option.none = some x from h)
theorem meets_kept_lines : busy.HiddenFlagExact ∧ busy.HoldsBounded := by
  unfold State.HiddenFlagExact State.HoldsBounded
  decide +kernel
theorem meets_kept_notices : busy.NoticesCoalesced ∧ busy.NtfFollows :=
  ⟨⟨by decide +kernel, by decide +kernel, fun k a b _ h => nomatch (show none = some b from h)⟩, by
    unfold State.NtfFollows; decide +kernel⟩
theorem meets_kept_timers : busy.TimersAhead := by
  have frames : ∀ c ∈ List.finRange 2, (busy.screen c).frame = none := by decide +kernel
  have streams : ∀ i ∈ List.finRange 16, (busy.stream i).cfg.ageLimit ≤ 2000
      ∧ ((busy.stream i).cap.timer = none ∨ (busy.stream i).cap.timer = some 205) := by decide +kernel
  refine ⟨fun i => ⟨(streams i (List.mem_finRange i)).1, fun e h => ?_⟩, fun c => ⟨?_, fun f e h => ?_⟩,
    by decide +kernel, fun x e h => ?_, by decide +kernel, fun e h => nomatch (show none = some e from h)⟩
  · rcases (streams i (List.mem_finRange i)).2 with h' | h' <;> rw [h'] at h <;> cases h
    decide
  · exact (show ∀ c ∈ List.finRange 2, (busy.screen c).timeout ≤ 1000 by decide +kernel) c (List.mem_finRange c)
  · rw [frames c (List.mem_finRange c)] at h; cases h
  · rw [(show ∀ x ∈ List.finRange 2, busy.lines.sides[x].timer = none by decide +kernel) x (List.mem_finRange x)] at h
    cases h
theorem meets_kept_step : ∃ t, step busy = .next t ∧ t ≠ busy := ⟨_, rfl, by decide +kernel⟩

end Sys2Proof.Tests
end

section
/-! PROOFS. The outcome of one evaluation (chapter 5): what each step of R81 to R90 makes of a tile and of the lens, by
one rule for each case of each function; and the two statements about it. -/

namespace Sys2Proof.Machine

/-! ### Exclusion and the frame gate (R77, R81) -/

theorem StreamConfig.excludes_iff (c : StreamConfig) (t : Fin 48) : c.excludes t = true ↔
    c.exRows.getLsbD (t.val / 8) = true ∨ c.exCols.getLsbD (t.val % 8) = true := by
  simp [StreamConfig.excludes]

section Gate
variable {z : Soiling} {luma pix : Nat}

theorem gateOf_eq_inconclusive (h : pix = 0) : gateOf z luma pix = .inconclusive := if_pos h

theorem gateOf_eq_dark (h : pix ≠ 0) (hd : luma / pix < z.dark) : gateOf z luma pix = .dark := by
  rw [gateOf, if_neg h, if_pos hd]

theorem gateOf_eq_glare (h : pix ≠ 0) (hd : z.dark ≤ luma / pix) (hg : z.glare < luma / pix) :
    gateOf z luma pix = .glare := by
  rw [gateOf, if_neg h, if_neg hd.not_gt, if_pos hg]

/-- A mean on either limit passes the gate. -/
theorem gateOf_eq_opened (h : pix ≠ 0) (hd : z.dark ≤ luma / pix) (hg : luma / pix ≤ z.glare) :
    gateOf z luma pix = .opened := by
  rw [gateOf, if_neg h, if_neg hd.not_gt, if_neg hg.not_gt]

end Gate

/-! ### One tile: learning (R82, R83) -/

/-- A sample moves the running mean; the last one makes the tile SHARP and clears its counter. -/
theorem Tile.learnSample_eq (z : Soiling) (x : Tile) (e : Nat) : x.learnSample z e = { x with
    learned := x.learned + 1
    baseline := ((x.baseline : Int) + Int.tdiv ((e : Int) - x.baseline) (x.learned + 1 : Nat)).toNat
    state := if z.learn ≤ x.learned + 1 then .sharp else x.state
    persist := if z.learn ≤ x.learned + 1 then 0 else x.persist } := by
  by_cases last : z.learn ≤ x.learned + 1 <;> simp [Tile.learnSample, last]

/-! ### One tile: the hysteresis, row by row of R85 -/

section Hysteresis
variable {z : Soiling} {x : Tile} {q : Nat}

theorem Tile.hysteresis_blurs (hs : x.state = .sharp) (hq : q < z.low) (hp : z.persistOn ≤ x.persist + 1) :
    (x.hysteresis z q).state = .blurred ∧ (x.hysteresis z q).persist = 0 := by
  simp [Tile.hysteresis, hs, hq, hp]

theorem Tile.hysteresis_counts_low (hs : x.state = .sharp) (hq : q < z.low) (hp : x.persist + 1 < z.persistOn) :
    (x.hysteresis z q).state = .sharp ∧ (x.hysteresis z q).persist = x.persist + 1 := by
  simp [Tile.hysteresis, hs, hq, hp.not_ge]

theorem Tile.hysteresis_stays_sharp (hs : x.state = .sharp) (hq : z.low ≤ q) :
    (x.hysteresis z q).state = .sharp ∧ (x.hysteresis z q).persist = 0 := by
  simp [Tile.hysteresis, hs, hq.not_gt]

theorem Tile.hysteresis_clears (hs : x.state = .blurred) (hq : z.high < q) (hp : z.persistOff ≤ x.persist + 1) :
    (x.hysteresis z q).state = .sharp ∧ (x.hysteresis z q).persist = 0 := by
  simp [Tile.hysteresis, hs, hq, hp]

theorem Tile.hysteresis_counts_high (hs : x.state = .blurred) (hq : z.high < q) (hp : x.persist + 1 < z.persistOff) :
    (x.hysteresis z q).state = .blurred ∧ (x.hysteresis z q).persist = x.persist + 1 := by
  simp [Tile.hysteresis, hs, hq, hp.not_ge]

theorem Tile.hysteresis_stays_blurred (hs : x.state = .blurred) (hq : q ≤ z.high) :
    (x.hysteresis z q).state = .blurred ∧ (x.hysteresis z q).persist = 0 := by
  simp [Tile.hysteresis, hs, hq.not_gt]

variable (z x q)

/-- The hysteresis moves the state and the counter alone. -/
theorem Tile.hysteresis_eq : x.hysteresis z q
    = { x with state := (x.hysteresis z q).state, persist := (x.hysteresis z q).persist } := by
  unfold Tile.hysteresis; repeat' split
  all_goals rfl

@[simp] theorem Tile.hysteresis_learned : (x.hysteresis z q).learned = x.learned := by rw [Tile.hysteresis_eq]
@[simp] theorem Tile.hysteresis_baseline : (x.hysteresis z q).baseline = x.baseline := by rw [Tile.hysteresis_eq]
@[simp] theorem Tile.hysteresis_lastE : (x.hysteresis z q).lastE = x.lastE := by rw [Tile.hysteresis_eq]
@[simp] theorem Tile.hysteresis_lastQ : (x.hysteresis z q).lastQ = x.lastQ := by rw [Tile.hysteresis_eq]

end Hysteresis

/-! ### One tile: the baseline (R86) -/

/-- The adaptation moves the baseline alone, and that of a SHARP tile alone. -/
theorem Tile.adaptBaseline_eq (z : Soiling) (x : Tile) (e : Nat) : x.adaptBaseline z e = { x with
    baseline := if x.state = .sharp
      then min 65280 ((x.baseline : Int) + Int.fdiv ((e : Int) - x.baseline) (2 ^ z.adapt : Nat)).toNat
      else x.baseline } := by
  unfold Tile.adaptBaseline; split <;> rfl

/-! ### One tile: steps 2 to 6 by the kind of tile (R82 to R86) -/

section Evaluate
variable {z : Soiling} {x : Tile} {edge grad : Nat}

theorem Tile.evaluate_of_sparse (h : grad < 64) : x.evaluate z edge grad = x := by
  simp [Tile.evaluate, edgeEnergy, h.not_ge]

theorem Tile.evaluate_of_learning (h : 64 ≤ grad) (hs : x.state = .learning) :
    x.evaluate z edge grad = { x with lastE := edge * 256 / grad }.learnSample z (edge * 256 / grad) := by
  simp [Tile.evaluate, edgeEnergy, h, hs]

theorem Tile.evaluate_of_featureless (h : 64 ≤ grad) (hs : x.state ≠ .learning) (hb : x.baseline < 16) :
    x.evaluate z edge grad = { x with lastE := edge * 256 / grad } := by
  simp [Tile.evaluate, edgeEnergy, h, hs, Tile.classify, hb.not_ge]

/-- A tile with a ratio goes through the hysteresis, and then its baseline moves. -/
theorem Tile.evaluate_of_classified {e q : Nat} (he : e = edge * 256 / grad) (hq : q = min 1023 (e * 256 / x.baseline))
    (h : 64 ≤ grad) (hs : x.state ≠ .learning) (hb : 16 ≤ x.baseline) :
    x.evaluate z edge grad = ({ x with lastE := e, lastQ := q }.hysteresis z q).adaptBaseline z e := by
  subst he hq
  simp [Tile.evaluate, edgeEnergy, h, hs, Tile.classify, hb, ratioOf]

end Evaluate

/-! ### The lens (R87 to R89) -/

section Judgement
variable {z : Soiling} {f : Nat}

theorem lensAfter_of_soiled (before : LensState) (h : z.soiled ≤ f) : lensAfter z before f = .soiled := if_pos h

/-- A lens that is LEARNING or CLEAN rises at the suspect level itself. -/
theorem lensAfter_of_low {before : LensState} (h : f < z.soiled) (hb : before = .learning ∨ before = .clean) :
    lensAfter z before f = if z.suspect ≤ f then .suspect else .clean := by
  rcases hb with rfl | rfl <;> exact if_neg h.not_ge

theorem lensAfter_suspect (h : f < z.soiled) :
    lensAfter z .suspect f = if (z.suspect : Int) - 16 ≤ f then .suspect else .clean := by
  have band : (z.suspect : Int) - 16 ≤ f ↔ z.suspect ≤ f + 16 := by omega
  simp only [lensAfter, if_neg h.not_ge, band]

theorem lensAfter_soiled (h : f < z.soiled) : lensAfter z .soiled f
    = if (z.soiled : Int) - 16 ≤ f then .soiled else if (z.suspect : Int) - 16 ≤ f then .suspect else .clean := by
  have band (level : Nat) : (level : Int) - 16 ≤ f ↔ level ≤ f + 16 := by omega
  simp only [lensAfter, if_neg h.not_ge, band]

variable {x : Lens} {a b : Nat}

/-- Fewer than 8 counted tiles: the state and the fraction are kept. -/
theorem Lens.judge_of_few (h : a < 8) : x.judge z a b
    = { x with counted := a, blurred := b, inconclusive := min 65535 (x.inconclusive + 1) } := if_pos h

theorem Lens.judge_of_enough (h : 8 ≤ a) : x.judge z a b
    = { x with counted := a, blurred := b, fraction := b * 256 / a, state := lensAfter z x.state (b * 256 / a) } :=
  if_neg h.not_gt

end Judgement

/-! ### The whole evaluation (R80, R81, R90) -/

section Evaluation
variable {z : Soiling} {st : Stream} {r : FrameRecord}

theorem Stream.evaluated_of_inconclusive (h : gateOf z r.luma r.pix = .inconclusive) : st.evaluated z r
    = { st with
      lens := { st.lens with inconclusive := min 65535 (st.lens.inconclusive + 1) }.recordEvaluation r.sequence } := by
  rw [Stream.evaluated, h]; rfl

theorem Stream.evaluated_of_dark (h : gateOf z r.luma r.pix = .dark) : st.evaluated z r
    = { st with lens := { st.lens with dark := min 65535 (st.lens.dark + 1) }.recordEvaluation r.sequence } := by
  rw [Stream.evaluated, h]; rfl

theorem Stream.evaluated_of_glare (h : gateOf z r.luma r.pix = .glare) : st.evaluated z r
    = { st with lens := { st.lens with glare := min 65535 (st.lens.glare + 1) }.recordEvaluation r.sequence } := by
  rw [Stream.evaluated, h]; rfl

theorem Stream.evaluated_tiles_of_opened (h : gateOf z r.luma r.pix = .opened) :
    (st.evaluated z r).tiles = evaluateTiles z st.cfg r st.tiles := by
  rw [Stream.evaluated, h]

/-- The lens is judged by the tile table that the same evaluation leaves. -/
theorem Stream.evaluated_lens_of_opened (h : gateOf z r.luma r.pix = .opened) : (st.evaluated z r).lens
    = (st.lens.judge z (countTiles st.cfg (st.evaluated z r).tiles Tile.past)
        (countTiles st.cfg (st.evaluated z r).tiles (fun x => decide (x.state = .blurred)))).recordEvaluation
        r.sequence := by
  rw [Stream.evaluated_tiles_of_opened h, Stream.evaluated, h]

theorem evaluateTiles_get_of_excluded (c : StreamConfig) (tiles : Vector Tile 48) {t : Fin 48}
    (h : c.excludes t = true) : (evaluateTiles z c r tiles)[t] = tiles[t] := by
  rw [evaluateTiles, tabulate_get, if_pos h]

theorem evaluateTiles_get_of_included (c : StreamConfig) (tiles : Vector Tile 48) {t : Fin 48}
    (h : c.excludes t = false) : (evaluateTiles z c r tiles)[t] = tiles[t].evaluate z r.edge[t] r.grad[t] := by
  rw [evaluateTiles, tabulate_get, h]; exact if_neg Bool.false_ne_true

end Evaluation

/-! ### The statements -/

/-- Settles O26: the evaluation of a tile by its kind, and for a classified tile row by row of the hysteresis. -/
theorem tilesFollowTheirRules : Obligations.TilesFollowTheirRules := by
  refine ⟨StreamConfig.excludes_iff, ?_⟩
  intro z st r t x y e q hpix hdark hglare hx hy he hq
  rw [Stream.evaluated_tiles_of_opened (gateOf_eq_opened hpix hdark hglare)] at hy
  have included : st.cfg.excludes t = false → y = x.evaluate z r.edge[t] r.grad[t] := fun h => by
    rw [hy, hx, evaluateTiles_get_of_included st.cfg st.tiles h]
  refine ⟨?untouched, fun hin hgrad => ⟨?learning, ?featureless, ?classified⟩⟩
  case untouched =>
    intro h
    cases hex : st.cfg.excludes t with
    | true => rw [hy, hx, evaluateTiles_get_of_excluded st.cfg st.tiles hex]
    | false => rw [included hex, Tile.evaluate_of_sparse (h.resolve_left (by simp [hex]))]
  case learning =>
    intro hs
    rw [included hin, Tile.evaluate_of_learning hgrad hs, ← he, Tile.learnSample_eq]
    refine ⟨rfl, rfl, rfl, rfl, ?_⟩
    by_cases last : z.learn ≤ x.learned + 1 <;> simp [last, hs]
  case featureless =>
    intro hs hb
    rw [included hin, Tile.evaluate_of_featureless hgrad hs hb, he]
  case classified =>
    intro hs hb
    rw [included hin, Tile.evaluate_of_classified he hq hgrad hs hb, Tile.adaptBaseline_eq]
    refine ⟨Tile.hysteresis_learned .., Tile.hysteresis_lastE .., Tile.hysteresis_lastQ ..,
      fun hs hq hp => Tile.hysteresis_blurs hs hq hp, fun hs hq hp => Tile.hysteresis_counts_low hs hq hp,
      fun hs hq => Tile.hysteresis_stays_sharp hs hq, fun hs hq hp => Tile.hysteresis_clears hs hq hp,
      fun hs hq hp => Tile.hysteresis_counts_high hs hq hp, fun hs hq => Tile.hysteresis_stays_blurred hs hq, ?baseline⟩
    case baseline => simp only [Tile.hysteresis_baseline]

/-- Settles O27: the three closed gates, and then the judgement of the tile table that an OPEN frame leaves. -/
theorem gatedFramesMoveNoTileAndOpenOnesJudgeTheLens :
    Obligations.GatedFramesMoveNoTileAndOpenOnesJudgeTheLens := by
  refine ⟨?gated, ?opened⟩
  case gated =>
    rintro z st r l rfl
    exact ⟨fun h => Stream.evaluated_of_inconclusive (gateOf_eq_inconclusive h),
      fun h hd => Stream.evaluated_of_dark (gateOf_eq_dark h hd),
      fun h hd hg => Stream.evaluated_of_glare (gateOf_eq_glare h hd hg)⟩
  case opened =>
    intro z st r a b f l hpix hdark hglare ha hb hf hl
    have judged : l = (st.lens.judge z a b).recordEvaluation r.sequence := by
      rw [hl, ha, hb]
      exact Stream.evaluated_lens_of_opened (gateOf_eq_opened hpix hdark hglare)
    rcases Nat.lt_or_ge a 8 with few | enough
    · rw [Lens.judge_of_few few] at judged
      subst judged
      exact ⟨rfl, rfl, rfl, rfl, rfl, rfl, fun _ => ⟨rfl, rfl, rfl⟩, fun h => absurd few h.not_gt⟩
    · rw [Lens.judge_of_enough enough, ← hf] at judged
      have state : l.state = lensAfter z st.lens.state f := by rw [judged]; rfl
      rw [state, judged]
      refine ⟨rfl, rfl, rfl, rfl, rfl, rfl, fun h => absurd h enough.not_gt, fun _ => ⟨rfl, rfl, ?_, ?_, ?_, ?_⟩⟩
      · exact lensAfter_of_soiled _
      · exact lensAfter_of_low
      · intro h hs
        rw [hs, lensAfter_suspect h]
      · intro h hs
        rw [hs, lensAfter_soiled h]

end Sys2Proof.Machine
end

section
/-! PROOFS. The colour of one screen pixel (R102, R103, R120 to R125): which pane decides it, where its source pixel stands,
and what each overlay code makes of it; and the statement about it. -/

namespace Sys2Proof.Machine

/-! ### The pane that decides (R102) -/

theorem Pane.covers_iff (p : Pane) (x y : Nat) : p.covers x y = true ↔
    p.dx ≤ x ∧ x < p.dx + p.sw / p.k ∧ p.dy ≤ y ∧ y < p.dy + p.sh / p.k := decide_eq_true_iff

theorem lastCovering_eq_none {ps : List ViewPane} {x y : Nat} (h : ∀ v ∈ ps, v.pane.covers x y = false) :
    lastCovering ps x y = none := by
  simp only [lastCovering, List.find?_eq_none, List.mem_reverse]
  intro p hp
  simp [h p.1 (List.fst_mem_of_mem_zipIdx hp)]

/-- A covering pane with none behind it is found, at its place in the list. -/
theorem lastCovering_eq_some {pre post : List ViewPane} {v : ViewPane} {x y : Nat} (hv : v.pane.covers x y = true)
    (hpost : ∀ z ∈ post, z.pane.covers x y = false) :
    lastCovering (pre ++ v :: post) x y = some (v, pre.length) := by
  have skipped : (post.zipIdx (pre.length + 1)).reverse.find? (fun p => p.1.pane.covers x y) = none := by
    simp only [List.find?_eq_none, List.mem_reverse]
    intro p hp
    simp [hpost p.1 (List.fst_mem_of_mem_zipIdx hp)]
  simp [lastCovering, List.zipIdx_append, List.zipIdx_cons, List.find?_append, skipped, hv]

theorem pixelOf_of_uncovered {ps : List ViewPane} {x y : Nat} (bg : Colour)
    (h : ∀ v ∈ ps, v.pane.covers x y = false) : pixelOf bg ps x y = .flat bg := by
  rw [pixelOf, lastCovering_eq_none h]

theorem pixelOf_of_lastCovering {pre post : List ViewPane} {v : ViewPane} {x y : Nat} (bg : Colour)
    (hv : v.pane.covers x y = true) (hpost : ∀ z ∈ post, z.pane.covers x y = false) :
    pixelOf bg (pre ++ v :: post) x y = v.pixel pre.length x y := by
  rw [pixelOf, lastCovering_eq_some hv hpost]

/-! ### The source pixel (R103, R104) -/

/-- The source of a pixel lies in the 16-byte block that holds its offset. -/
theorem ViewPane.sourcePixel_of_slot {v : ViewPane} {n : Nat} (h : v.slot = some n) (j x y : Nat) (dim : Bool) :
    v.sourcePixel j x y dim =
      .source j n (v.sourceOffset x y - v.sourceOffset x y % 16) (v.sourceOffset x y % 16) dim := by
  have block : v.sourceOffset x y / 16 * 16 = v.sourceOffset x y - v.sourceOffset x y % 16 := by omega
  rw [ViewPane.sourcePixel, h, ← block]

/-! ### The badge square (R124, R125) -/

theorem Pane.inBadge_iff (p : Pane) (x y : Nat) : p.inBadge x y = true ↔
    p.dx + 4 ≤ x ∧ x ≤ p.dx + 27 ∧ p.dy + 4 ≤ y ∧ y ≤ p.dy + 27 := decide_eq_true_iff

/-- The border of R125 in screen coordinates: two pixels on each side of the square. -/
theorem badgeColour_of_inBadge {p : Pane} {x y : Nat} (h : p.inBadge x y = true) (fill : Colour) :
    badgeColour p fill x y =
      if x < p.dx + 6 ∨ p.dx + 26 ≤ x ∨ y < p.dy + 6 ∨ p.dy + 26 ≤ y then Colour.black else fill := by
  obtain ⟨left, -, top, -⟩ := (p.inBadge_iff x y).mp h
  have border : (x - (p.dx + 4) < 2 ∨ 22 ≤ x - (p.dx + 4) ∨ y - (p.dy + 4) < 2 ∨ 22 ≤ y - (p.dy + 4))
      ↔ (x < p.dx + 6 ∨ p.dx + 26 ≤ x ∨ y < p.dy + 6 ∨ p.dy + 26 ≤ y) := by omega
  simp only [badgeColour, border]

/-! ### What each overlay code makes of a covered pixel (R121 to R125) -/

section Overlay
variable {v : ViewPane} {x y : Nat} (j : Nat)

theorem ViewPane.pixel_of_none (h : v.overlay = .none) : v.pixel j x y = v.sourcePixel j x y false := by
  rw [ViewPane.pixel, h]

theorem ViewPane.pixel_of_noSignal (h : v.overlay = .noSignal) : v.pixel j x y = .flat (checker x y) := by
  rw [ViewPane.pixel, h]

theorem ViewPane.pixel_of_stale_stripe (h : v.overlay = .stale) (hs : (x + y) % 16 < 3) :
    v.pixel j x y = .flat stripeColour := by
  rw [ViewPane.pixel, h]
  exact if_pos hs

theorem ViewPane.pixel_of_stale_dimmed (h : v.overlay = .stale) (hs : 3 ≤ (x + y) % 16) :
    v.pixel j x y = v.sourcePixel j x y true := by
  rw [ViewPane.pixel, h]
  exact if_neg hs.not_gt

theorem ViewPane.pixel_outside_badge (h : v.overlay = .badgeSoiled ∨ v.overlay = .badgeSuspect)
    (hb : v.pane.inBadge x y = false) : v.pixel j x y = v.sourcePixel j x y false := by
  rcases h with h | h <;> simp [ViewPane.pixel, h, hb]

/-- The fill says which badge it is: amber for SOILED, yellow for SUSPECT. -/
theorem ViewPane.pixel_inside_badge (h : v.overlay = .badgeSoiled ∨ v.overlay = .badgeSuspect)
    (hb : v.pane.inBadge x y = true) :
    v.pixel j x y = .flat (badgeColour v.pane (if v.overlay = .badgeSoiled then amber else yellow) x y) := by
  rcases h with h | h <;> simp [ViewPane.pixel, h, hb]

end Overlay

/-! ### The statement -/

/-- Settles O19: the last covering pane is found first, and then each overlay code has its own rule. -/
theorem overlayDecidesThePixel : Obligations.OverlayDecidesThePixel := by
  intro bg ps x y
  simp only [← Pane.covers_iff, Bool.not_eq_true]
  refine ⟨pixelOf_of_uncovered bg, ?_⟩
  rintro pre post v rfl hv hpost badge hbadge
  change badge = v.pane.inBadge x y at hbadge
  subst hbadge
  rw [pixelOf_of_lastCovering bg hv hpost]
  refine ⟨fun n place hn hplace => ?source, ?badge, v.pixel_of_noSignal pre.length, v.pixel_of_stale_stripe pre.length⟩
  case source =>
    change place = v.sourceOffset x y at hplace
    rw [hplace, ← ViewPane.sourcePixel_of_slot hn, ← ViewPane.sourcePixel_of_slot hn]
    exact ⟨fun h => h.elim (v.pixel_of_none _) fun ⟨ho, hb⟩ => v.pixel_outside_badge _ ho hb,
      v.pixel_of_stale_dimmed _⟩
  case badge =>
    intro ho hb
    rw [ViewPane.pixel_inside_badge _ ho hb, badgeColour_of_inBadge hb]
    rfl

end Sys2Proof.Machine
end

section
/-! PROOFS. Where a fitted pane stands (R136 to R138): the decimation the fit chooses, the crop it takes, and the place of the
pane in its cell; and the statement about it. -/

namespace Sys2Proof.Machine

/-! ### The decimation (R137) -/

/-- A frame of w × h fits a cell of cw × ch at decimation k. -/
def FitsAt (cw ch w h k : Nat) : Prop := w ≤ k * cw ∧ h ≤ k * ch

section Fitted
variable {cw ch w h : Nat}

/-- The fit either takes the whole frame at the least of 1 to 4 that fits, or none of them fits and it takes the centre. -/
theorem fitFrame_cases (cw ch w h : Nat) :
    (∃ k, 1 ≤ k ∧ k ≤ 4 ∧ FitsAt cw ch w h k ∧ (∀ m, 1 ≤ m → m < k → ¬FitsAt cw ch w h m)
      ∧ fitFrame cw ch w h = fitWhole k w h)
    ∨ (∀ m, 1 ≤ m → m ≤ 4 → ¬FitsAt cw ch w h m) ∧ fitFrame cw ch w h = fitCentre cw ch w h := by
  have tried : [1, 2, 3, 4] = List.range' 1 4 := rfl
  rw [fitFrame, tried]
  split
  case h_1 k found =>
    obtain ⟨fits, mem, least⟩ := List.find?_range'_eq_some.mp found
    have bounds : 1 ≤ k ∧ k < 1 + 4 := List.mem_range'_1.mp mem
    refine .inl ⟨k, bounds.1, by omega, of_decide_eq_true (p := _ ∧ _) fits, fun m hm hmk => ?_, rfl⟩
    simpa only [FitsAt, Bool.not_eq_true', decide_eq_false_iff_not] using least m hm hmk
  case h_2 missed =>
    refine .inr ⟨fun m hm hm4 => ?_, rfl⟩
    have failed := List.find?_range'_eq_none.mp missed m hm (by omega)
    simpa only [FitsAt, Bool.not_eq_true', decide_eq_false_iff_not] using failed

theorem fitFrame_k_bounds (cw ch w h : Nat) : 1 ≤ (fitFrame cw ch w h).k ∧ (fitFrame cw ch w h).k ≤ 4 := by
  obtain ⟨k, low, high, -, -, eq⟩ | ⟨-, eq⟩ := fitFrame_cases cw ch w h <;> rw [eq]
  · exact ⟨low, high⟩
  · exact ⟨Nat.one_le_ofNat, le_rfl⟩

theorem not_fitsAt_of_lt_fitFrame_k {m : Nat} (hm : 1 ≤ m) (lt : m < (fitFrame cw ch w h).k) :
    ¬FitsAt cw ch w h m := by
  obtain ⟨k, -, -, -, least, eq⟩ | ⟨unfit, eq⟩ := fitFrame_cases cw ch w h <;> rw [eq] at lt
  · exact least m hm lt
  · exact unfit m hm lt.le

theorem fitFrame_of_fitsAt (fits : FitsAt cw ch w h (fitFrame cw ch w h).k) :
    fitFrame cw ch w h = fitWhole (fitFrame cw ch w h).k w h := by
  obtain ⟨k, -, -, -, -, eq⟩ | ⟨unfit, eq⟩ := fitFrame_cases cw ch w h <;> rw [eq] at fits ⊢
  · rfl
  · exact absurd fits (unfit 4 (by decide) le_rfl)

theorem fitFrame_of_not_fitsAt (unfit : ¬FitsAt cw ch w h (fitFrame cw ch w h).k) :
    fitFrame cw ch w h = fitCentre cw ch w h := by
  obtain ⟨k, -, -, fits, -, eq⟩ | ⟨-, eq⟩ := fitFrame_cases cw ch w h <;> rw [eq] at unfit
  · exact absurd fits unfit
  · exact eq

/-! ### The crop (R137) -/

/-- The crop is a multiple of the decimation within the frame, and what it is reduced to is within the cell. -/
structure Fit.Within (f : Fit) (cw ch w h : Nat) : Prop where
  sw_mod : f.sw % f.k = 0
  sh_mod : f.sh % f.k = 0
  right_le : f.sx + f.sw ≤ w
  bottom_le : f.sy + f.sh ≤ h
  width_le : f.sw / f.k ≤ cw
  height_le : f.sh / f.k ≤ ch

theorem fitWhole_within {k : Nat} (fits : FitsAt cw ch w h k) : (fitWhole k w h).Within cw ch w h := by
  obtain ⟨hw, hh⟩ := fits
  exact {
    sw_mod := Nat.mod_eq_zero_of_dvd (Nat.dvd_sub_mod w)
    sh_mod := Nat.mod_eq_zero_of_dvd (Nat.dvd_sub_mod h)
    right_le := by simp [fitWhole]
    bottom_le := by simp [fitWhole]
    width_le := Nat.div_le_of_le_mul ((Nat.sub_le w _).trans hw)
    height_le := Nat.div_le_of_le_mul ((Nat.sub_le h _).trans hh) }

/-- One direction of the centre crop: the frame trimmed to a multiple of 4, or four times the cell. -/
theorem centre_crop (n c : Nat) : min (n - n % 4) (4 * c) % 4 = 0
    ∧ (n - min (n - n % 4) (4 * c)) / 2 + min (n - n % 4) (4 * c) ≤ n
    ∧ min (n - n % 4) (4 * c) / 4 ≤ c := by omega

theorem fitCentre_within (cw ch w h : Nat) : (fitCentre cw ch w h).Within cw ch w h := by
  obtain ⟨sw_mod, right_le, width_le⟩ := centre_crop w cw
  obtain ⟨sh_mod, bottom_le, height_le⟩ := centre_crop h ch
  exact ⟨sw_mod, sh_mod, right_le, bottom_le, width_le, height_le⟩

theorem fitFrame_within (cw ch w h : Nat) : (fitFrame cw ch w h).Within cw ch w h := by
  obtain ⟨k, -, -, fits, -, eq⟩ | ⟨-, eq⟩ := fitFrame_cases cw ch w h <;> rw [eq]
  · exact fitWhole_within fits
  · exact fitCentre_within cw ch w h

end Fitted

/-! ### The cell (R136, R138) -/

/-- For the counts of doors there are, the grid has a cell for each of them. -/
theorem le_gridOf_cells {n : Nat} (h : n ≤ 6) : n ≤ (gridOf n).1 * (gridOf n).2 := by
  unfold gridOf
  split_ifs <;> omega

theorem gridOf_eq {n : Nat} (h : 1 ≤ n) :
    gridOf n = if n = 1 then (1, 1) else if n = 2 then (2, 1) else if n ≤ 4 then (2, 2) else (3, 2) := by
  have one : n ≤ 1 ↔ n = 1 := by omega
  simp only [gridOf, one]

/-- What is centred in cell a, and no larger than it, ends within it. -/
theorem centred_end_le {a c d : Nat} (h : d ≤ c) : a * c + (c - d) / 2 + d ≤ (a + 1) * c := by
  rw [Nat.add_one_mul]
  omega

/-- A cell of the grid ends within the screen: the division leaves its rest over at the far edge. -/
theorem cell_end_le {a n : Nat} (size : Nat) (h : a < n) : (a + 1) * (size / n) ≤ size :=
  calc (a + 1) * (size / n) ≤ n * (size / n) := Nat.mul_le_mul_right _ h
    _ ≤ size := Nat.mul_div_le size n

/-! ### The statement -/

/-- Settles O23: the two cases of the fit give the decimation and the crop, and the reduced crop is no larger than a cell,
which is one of the c × r that divide the screen. -/
theorem fittedPanesStayInTheirCells : Obligations.FittedPanesStayInTheirCells := by
  rintro ws hs n j i cfg hn hn6 hj c r p grid rfl
  have cells : j < c * r := by
    have enough := hj.trans_le (le_gridOf_cells hn6)
    rwa [← grid] at enough
  have col : j % c < c := Nat.mod_lt j (Nat.pos_of_mul_pos_right (Nat.zero_lt_of_lt cells))
  have row : j / c < r := Nat.div_lt_of_lt_mul cells
  obtain ⟨one_le, le_four⟩ := fitFrame_k_bounds (ws / c) (hs / r) cfg.w cfg.h
  have crop := fitFrame_within (ws / c) (hs / r) cfg.w cfg.h
  have right := centred_end_le (a := j % c) crop.width_le
  have bottom := centred_end_le (a := j / c) crop.height_le
  refine ⟨grid.trans (gridOf_eq hn), rfl, rfl, rfl, one_le, le_four, fun m hm lt => not_fitsAt_of_lt_fitFrame_k hm lt,
    crop.sw_mod, crop.sh_mod, crop.right_le, crop.bottom_le, fun fits => ?whole, fun unfit => ?centre, rfl, rfl,
    right, bottom, right.trans (cell_end_le ws col), bottom.trans (cell_end_le hs row)⟩
  case whole =>
    have eq := fitFrame_of_fitsAt fits
    exact ⟨congrArg Fit.sx eq, congrArg Fit.sy eq, congrArg Fit.sw eq, congrArg Fit.sh eq⟩
  case centre =>
    have eq := fitFrame_of_not_fitsAt unfit
    dsimp only [cellPane]
    rw [eq]
    exact ⟨rfl, rfl, rfl, rfl, rfl⟩

end Sys2Proof.Machine
end

section
/-! PROOFS. The Notice Queue (chapter 10): taking a notice by R164 and R165, one equation for each branch, and what NOTICE
LEVEL answers (R171). -/

namespace Sys2Proof.Machine

namespace NoticeQueue

variable {q : NoticeQueue} {now : Time} {k : Kind} {subject value : Nat} {older : List Notice} {newest r : Notice}

/-! ### Merging into the newest record (R164) -/

theorem merges_of_nil (h : q.records = []) : q.merges k subject = false := by simp [merges, h]

theorem merges_concat_iff (tail : q.records = older ++ [newest]) : q.merges k subject = true ↔
    k.coalescing = true ∧ newest.kind = k ∧ newest.subject = subject ∧ newest.repeats < 255 ∧ q.lost = 0 := by
  simp [merges, tail]

/-- The forms in which R164 leaves a notice unmerged. -/
theorem merges_eq_false (h : q.records = [] ∨ k.coalescing = false ∨ 0 < q.lost ∨ ∃ older newest,
    q.records = older ++ [newest] ∧ (newest.kind ≠ k ∨ newest.subject ≠ subject ∨ 255 ≤ newest.repeats)) :
    q.merges k subject = false := by
  obtain empty | ⟨older, newest, tail⟩ := q.records.eq_nil_or_concat'
  · exact merges_of_nil empty
  · rw [← Bool.not_eq_true, merges_concat_iff tail]
    rintro ⟨coalescing, kind, same, below, none_lost⟩
    obtain empty | apart | lost | ⟨older', newest', tail', differs⟩ := h
    · simp [empty] at tail
    · simp [apart] at coalescing
    · omega
    · obtain ⟨-, rfl⟩ : older = older' ∧ newest = newest' := by simpa [tail] using tail'
      obtain h | h | h := differs
      · exact h kind
      · exact h same
      · omega

theorem mergeNewest_concat (tail : q.records = older ++ [newest]) :
    q.mergeNewest = { q with records := older ++ [{ newest with repeats := newest.repeats + 1 }] } := by
  simp [mergeNewest, tail]

/-! ### Taking a notice, branch by branch (R164, R165) -/

theorem take_of_disabled (off : q.enabled k = false) : q.take now k subject value = q := by simp [take, off]

theorem take_of_merges (on : q.enabled k = true) (merged : q.merges k subject = true) :
    q.take now k subject value = q.mergeNewest := by simp [take, on, merged]

theorem take_of_not_merges (on : q.enabled k = true) (apart : q.merges k subject = false) :
    q.take now k subject value = q.add now k subject value := by simp [take, on, apart]

/-- The oldest record has waited less than the linger (R166). -/
theorem decideLinger_of_short {rest : List Notice} (oldest : q.records = r :: rest)
    (short : (now - r.stamp).toNat < q.linger) :
    q.decideLinger now = { q with due := false, timer := some (laterBy r.stamp q.linger) } := by
  rw [decideLinger, oldest]
  exact if_neg (Nat.not_le.2 short)

/-- The queue with a new record at its tail, before the linger and NTF_N are looked at. -/
def appended (q : NoticeQueue) (now : Time) (k : Kind) (subject value : Nat) : NoticeQueue :=
  { q with records := q.records ++ [⟨k, subject, value, now, 1, q.lost⟩], lost := 0 }

theorem add_of_full (full : 32 ≤ q.records.length) :
    q.add now k subject value = { q with lost := min 255 (q.lost + 1) } :=
  if_neg (Nat.not_lt.2 full)

theorem add_of_nil (empty : q.records = []) :
    q.add now k subject value = ((q.appended now k subject value).decideLinger now).driveLine := by
  simp [add, appended, empty]

theorem add_of_room (nonempty : q.records ≠ []) (room : q.records.length < 32) :
    q.add now k subject value = (q.appended now k subject value).driveLine := by
  simp [add, appended, nonempty, room]

/-- A record added to an empty queue starts the linger timer: it has waited for nothing yet. -/
theorem decideLinger_appended_of_nil (empty : q.records = []) (linger : 0 < q.linger) :
    (q.appended now k subject value).decideLinger now = { q.appended now k subject value with
      due := false, timer := some (laterBy now q.linger) } := by
  have oldest : (q.appended now k subject value).records = [⟨k, subject, value, now, 1, q.lost⟩] := by
    simp [appended, empty]
  exact decideLinger_of_short oldest (by simpa [appended] using linger)

/-! ### The conditions of R167 -/

theorem immediateHolds_iff : q.immediateHolds = true ↔
    ∃ r ∈ q.records, r.kind = .doorBlind ∨ q.immediate.getLsbD r.kind.code = true := by
  simp [immediateHolds, isImmediate]

theorem conditions_eq (q : NoticeQueue) :
    q.conditions = (if q.records ≠ [] ∧ q.trigger ≤ q.records.length then 1 else 0)
      + (if q.records ≠ [] ∧ q.due = true then 2 else 0)
      + (if ∃ r ∈ q.records, r.kind = .doorBlind ∨ q.immediate.getLsbD r.kind.code = true then 4 else 0) := by
  rw [conditions]
  by_cases empty : q.records = []
  · simp [empty]
  · simp [empty, countHolds, immediateHolds_iff]

end NoticeQueue

/-! ### The statements -/

/-- Settles O35: the enable bit and the forms of R164 choose the branch of `take`; a record added to an empty queue, stamped
at this instant, has its whole linger before it. -/
theorem noticesAreTakenByTheirRule : Obligations.NoticesAreTakenByTheirRule := by
  intro q now k subject value
  refine ⟨NoticeQueue.take_of_disabled, fun on => ⟨?merged, fun apart => ?added⟩⟩
  case merged =>
    intro older newest tail coalescing kind same below none_lost
    have merged := (NoticeQueue.merges_concat_iff tail).2 ⟨coalescing, kind, same, below, none_lost⟩
    rw [NoticeQueue.take_of_merges on merged, NoticeQueue.mergeNewest_concat tail]
  case added =>
    have settings := q.take_settings now k subject value
    rw [NoticeQueue.take_of_not_merges on (NoticeQueue.merges_eq_false apart)] at settings ⊢
    refine ⟨NoticeQueue.add_of_full, fun room => ?_⟩
    by_cases empty : q.records = []
    · rw [NoticeQueue.add_of_nil empty] at settings ⊢
      refine ⟨by simp [NoticeQueue.appended], by simp [NoticeQueue.appended], fun _ linger => ?_,
        fun nonempty => absurd empty nonempty, settings⟩
      rw [NoticeQueue.decideLinger_appended_of_nil empty linger]
      exact ⟨rfl, rfl⟩
    · rw [NoticeQueue.add_of_room empty room] at settings ⊢
      exact ⟨rfl, rfl, fun nil => absurd nil empty, fun _ => ⟨rfl, rfl⟩, settings⟩

/-- A NOTICE LEVEL frame that the part hears is answered from the queue as it stands. -/
theorem exec_noticeLevel_of_hears {s : State} (hears : s.hears) :
    exec (.noticeLevel (frameOf [])) s = .next (s.responds 2 .done [BitVec.ofNat 8 s.notices.records.length,
      BitVec.ofNat 8 s.notices.lost, flagByte s.notices.asserted, BitVec.ofNat 8 s.notices.conditions]) :=
  congrArg Host.Outcome.next (s.request_good hears 0 [] rfl (Nat.zero_le _) fun _ => State.doNoticeLevel)

/-- Settles O36: the part hears the frame, and the last byte of its answer is the sum of the conditions of R167. -/
theorem noticeLevelReports : Obligations.NoticeLevelReports := by
  intro s hears sum total
  rw [exec_noticeLevel_of_hears hears, total, ← s.notices.conditions_eq]
  rfl

end Sys2Proof.Machine
end

section
/-! PROOFS. The fields of a byte list, the dump record of section 11.7 read field by field, and the two own writes that
carry it to DRAM (R182). -/

namespace Sys2Proof.Machine

/-! ### Fields of a byte list -/

/-- A field's value is that of the bytes at its place. -/
theorem field_eq (l : List Byte) (off n : Nat) : field l off n = leValue (bytesAt l off n) := rfl

theorem bytesAt_leBytes (n v : Nat) : bytesAt (leBytes n v) 0 n = leBytes n v := by simp [bytesAt]

theorem bytesAt_leBytes_append (n v : Nat) (post : List Byte) : bytesAt (leBytes n v ++ post) 0 n = leBytes n v := by
  simp [bytesAt]

theorem bytesAt_append_skip {pre post : List Byte} {m off : Nat} (n : Nat) (len : pre.length = m) (h : m ≤ off) :
    bytesAt (pre ++ post) off n = bytesAt post (off - m) n := by
  simp [bytesAt, List.drop_append, List.drop_eq_nil_of_le (len ▸ h), len]

theorem bytesAt_append_keep {pre post : List Byte} {off n : Nat} (h : off + n ≤ pre.length) :
    bytesAt (pre ++ post) off n = bytesAt pre off n := by
  rw [bytesAt, bytesAt, List.drop_append_of_le_length (by omega), List.take_append_of_le_length (by simp; omega)]

/-- The next field of a frame lies behind the bytes of the one before it. -/
theorem bytesAt_leBytes_skip (m v n : Nat) {off : Nat} (post : List Byte) (h : m ≤ off) :
    bytesAt (leBytes m v ++ post) off n = bytesAt post (off - m) n := bytesAt_append_skip n (leBytes_length m v) h

/-- In a list of entries of m bytes each, entry t stands at m·t. -/
theorem bytesAt_flatMap {α : Type} {f : α → List Byte} {m k n : Nat} (len : ∀ a, (f a).length = m) (h : k + n ≤ m)
    {l : List α} {t : Nat} {a : α} (at_t : l[t]? = some a) : bytesAt (l.flatMap f) (m * t + k) n = bytesAt (f a) k n := by
  induction l generalizing t with
  | nil => cases at_t
  | cons x xs ih =>
    rw [List.flatMap_cons]
    cases t with
    | zero =>
      obtain rfl : x = a := by simpa using at_t
      rw [Nat.mul_zero, Nat.zero_add, bytesAt_append_keep (by rw [len]; exact h)]
    | succ t =>
      rw [bytesAt_append_skip n (len x) (by rw [Nat.mul_succ]; omega), ← ih (t := t) (by simpa using at_t)]
      congr 1
      rw [Nat.mul_succ]
      omega

/-! ### The dump record (section 11.7) -/

/-- The 16 bytes of a dump record before its tiles. -/
def dumpHeader (i : Fin 16) (st : Stream) : List Byte :=
  leBytes 1 i.val ++ leBytes 1 st.lens.state.code ++ leBytes 2 st.lens.fraction ++ leBytes 1 st.lens.counted
    ++ leBytes 1 st.lens.blurred ++ leBytes 2 0 ++ leBytes 4 st.lens.evaluations ++ leBytes 2 st.lens.inconclusive
    ++ leBytes 2 ((st.lens.lastSeq.map BitVec.toNat).getD 0)

theorem dumpRecord_eq (i : Fin 16) (st : Stream) : dumpRecord i st =
    dumpHeader i st ++ (List.finRange 48).flatMap (fun t => dumpTile st.cfg t st.tiles[t]) := rfl

@[simp] theorem dumpHeader_length (i : Fin 16) (st : Stream) : (dumpHeader i st).length = 16 := by simp [dumpHeader]

@[simp] theorem dumpTile_length (c : StreamConfig) (t : Fin 48) (x : Tile) : (dumpTile c t x).length = 8 := by
  simp [dumpTile]

@[simp] theorem dumpRecord_length (i : Fin 16) (st : Stream) : (dumpRecord i st).length = 400 := by
  simp [dumpRecord_eq, List.length_flatMap]

theorem dumpRecord_header (i : Fin 16) (st : Stream) {off n : Nat} (h : off + n ≤ 16) :
    bytesAt (dumpRecord i st) off n = bytesAt (dumpHeader i st) off n := by
  rw [dumpRecord_eq, bytesAt_append_keep (by simpa using h)]

theorem dumpRecord_tile (i : Fin 16) (st : Stream) (t : Fin 48) {k n : Nat} (h : k + n ≤ 8) :
    bytesAt (dumpRecord i st) (16 + 8 * t.val + k) n = bytesAt (dumpTile st.cfg t st.tiles[t]) k n := by
  rw [dumpRecord_eq, bytesAt_append_skip n (dumpHeader_length i st) (by omega),
    show 16 + 8 * t.val + k - 16 = 8 * t.val + k by omega, bytesAt_flatMap (fun t => dumpTile_length _ t _) h]
  simp

/-- The fields of the 16 bytes, each behind the ones before it. -/
theorem dumpHeader_fields (i : Fin 16) (st : Stream) :
    bytesAt (dumpHeader i st) 0 1 = leBytes 1 i.val ∧ bytesAt (dumpHeader i st) 1 1 = leBytes 1 st.lens.state.code
      ∧ bytesAt (dumpHeader i st) 2 2 = leBytes 2 st.lens.fraction
      ∧ bytesAt (dumpHeader i st) 4 1 = leBytes 1 st.lens.counted
      ∧ bytesAt (dumpHeader i st) 5 1 = leBytes 1 st.lens.blurred ∧ bytesAt (dumpHeader i st) 6 2 = leBytes 2 0
      ∧ bytesAt (dumpHeader i st) 8 4 = leBytes 4 st.lens.evaluations
      ∧ bytesAt (dumpHeader i st) 12 2 = leBytes 2 st.lens.inconclusive
      ∧ bytesAt (dumpHeader i st) 14 2 = leBytes 2 ((st.lens.lastSeq.map BitVec.toNat).getD 0) := by
  simp [dumpHeader, bytesAt_leBytes_skip, bytesAt_leBytes_append, bytesAt_leBytes]

/-- The fields of the eight bytes of a tile. -/
theorem dumpTile_fields (c : StreamConfig) (t : Fin 48) (x : Tile) :
    bytesAt (dumpTile c t x) 0 1 = leBytes 1 (reportedState c t x)
      ∧ bytesAt (dumpTile c t x) 1 1 = leBytes 1 (if x.state = .learning then x.learned else x.persist)
      ∧ bytesAt (dumpTile c t x) 2 2 = leBytes 2 x.baseline ∧ bytesAt (dumpTile c t x) 4 2 = leBytes 2 x.lastE
      ∧ bytesAt (dumpTile c t x) 6 2 = leBytes 2 x.lastQ := by
  simp [dumpTile, bytesAt_leBytes_skip, bytesAt_leBytes_append, bytesAt_leBytes]

/-- An excluded tile reports 0, any other the code of its state. -/
theorem reportedState_byte (c : StreamConfig) (t : Fin 48) (x : Tile) : leBytes 1 (reportedState c t x) =
    [if c.exRows.getLsbD (t.val / 8) = true ∨ c.exCols.getLsbD (t.val % 8) = true then 0 else match x.state with
      | .learning => 1
      | .sharp => 2
      | .blurred => 3] := by
  unfold reportedState
  by_cases ex : c.excludes t = true
  · rw [if_pos ex, if_pos ((StreamConfig.excludes_iff c t).1 ex)]
    rfl
  · rw [if_neg ex, if_neg (mt (StreamConfig.excludes_iff c t).2 ex)]
    cases x.state <;> rfl

/-- The record the dump engine takes is laid out as section 11.7 says. -/
theorem dumpRecord_dumpRecordOf (i : Fin 16) (st : Stream) : DumpRecordOf i st (dumpRecord i st) := by
  obtain ⟨stream, state, fraction, counted, blurred, zero, evaluations, inconclusive, last⟩ := dumpHeader_fields i st
  have header {off n : Nat} {l : List Byte} (h : off + n ≤ 16) (f : bytesAt (dumpHeader i st) off n = l) :
      bytesAt (dumpRecord i st) off n = l := (dumpRecord_header i st h).trans f
  refine ⟨dumpRecord_length i st, header (by omega) stream, header (by omega) (state.trans ?state),
    header (by omega) fraction, header (by omega) counted, header (by omega) blurred, header (by omega) zero,
    header (by omega) evaluations, header (by omega) inconclusive, header (by omega) (last.trans ?last), fun t => ?tile⟩
  case state => cases st.lens.state <;> rfl
  case last => cases st.lens.lastSeq <;> rfl
  case tile =>
    obtain ⟨reported, count, baseline, energy, quotient⟩ := dumpTile_fields st.cfg t st.tiles[t]
    have tile {k n : Nat} {l : List Byte} (h : k + n ≤ 8) (f : bytesAt (dumpTile st.cfg t st.tiles[t]) k n = l) :
        bytesAt (dumpRecord i st) (16 + 8 * t.val + k) n = l := (dumpRecord_tile i st t h).trans f
    exact ⟨tile (by omega) (reported.trans (reportedState_byte _ _ _)), tile (by omega) count, tile (by omega) baseline,
      tile (by omega) energy, tile (by omega) quotient⟩

/-! ### The beats that carry a record (R182) -/

/-- Byte k of a run of bytes is the k-th byte of its value. -/
theorem leValue_byte {l : List Byte} {k : Nat} {b : Byte} (at_k : l[k]? = some b) : leValue l / 256 ^ k % 256 = b.toNat := by
  induction l generalizing k with
  | nil => cases at_k
  | cons x xs ih =>
    have small : x.toNat < 256 := x.isLt
    cases k with
    | zero =>
      obtain rfl : x = b := by simpa using at_k
      simp only [leValue, pow_zero]
      omega
    | succ k =>
      rw [← ih (k := k) (by simpa using at_k), leValue, pow_succ', ← Nat.div_div_eq_div_mul]
      congr 2
      omega

/-- A beat holds its sixteen bytes in order. -/
theorem lineByte_lineOf {l : List Byte} {k : Nat} {b : Byte} (hk : k < 16) (at_k : l[k]? = some b) :
    lineByte (lineOf l) k = b := by
  apply BitVec.eq_of_toNat_eq
  rw [← leValue_byte at_k, lineByte, lineOf, BitVec.extractLsb'_toNat, BitVec.toNat_ofNat, Nat.shiftRight_eq_div_pow,
    show (2 : Nat) ^ 128 = 256 ^ k * 256 ^ (16 - k) by rw [← pow_add, show k + (16 - k) = 16 by omega]; norm_num,
    show (2 : Nat) ^ (8 * k) = 256 ^ k by rw [pow_mul]; norm_num, Nat.mod_mul_right_div_self]
  refine Nat.mod_mod_of_dvd _ ?_
  exact dvd_pow_self 256 (by omega)

@[simp] theorem beatsOf_length (bytes : List Byte) (first count : Nat) : (beatsOf bytes first count).length = count := by
  simp [beatsOf]

theorem beatsOf_getElem? (bytes : List Byte) (first : Nat) {k count : Nat} (h : k < count) :
    (beatsOf bytes first count)[k]? = some ⟨BitVec.allOnes 16, lineOf ((bytes.drop (16 * (first + k))).take 16)⟩ := by
  simp [beatsOf, h]

theorem beatsOf_strobes {bytes : List Byte} {first count : Nat} {x : WriteBeat} (h : x ∈ beatsOf bytes first count) :
    x.strobes = BitVec.allOnes 16 := by
  obtain ⟨k, -, rfl⟩ := List.mem_map.1 h
  rfl

/-- Beats taken in two runs are the beats of one run. -/
theorem beatsOf_append (bytes : List Byte) (first m n : Nat) :
    beatsOf bytes first m ++ beatsOf bytes (first + m) n = beatsOf bytes first (m + n) := by
  simp [beatsOf, List.range_add, Nat.add_assoc, Function.comp_def]

/-- Byte k of a list stands in beat k / 16 of the beats that carry it, at place k % 16. -/
theorem beatsOf_byte {bytes : List Byte} {count k : Nat} {b : Byte} (h : k < 16 * count) (at_k : bytes[k]? = some b) :
    ∃ x, (beatsOf bytes 0 count)[k / 16]? = some x ∧ lineByte x.data (k % 16) = b := by
  refine ⟨_, beatsOf_getElem? bytes 0 (by omega), lineByte_lineOf (by omega) ?_⟩
  rw [List.getElem?_take_of_lt (by omega), List.getElem?_drop, Nat.zero_add, Nat.div_add_mod]
  exact at_k

/-! ### The two own writes of a record (R182) -/

/-- The n-th own write of the part, with the dump's record in its beats. -/
def dumpWrite (n addr beats : Nat) (data : List WriteBeat) : DownReq :=
  ⟨.dump false, .write, Config.ownId n, addr, .incrementing, beats, data, 1⟩

/-- The beats of the two writes together. -/
theorem dumpWrite_data_append (record : List Byte) (m n a b : Nat) :
    (dumpWrite m a 16 (beatsOf record 0 16)).data ++ (dumpWrite n b 9 (beatsOf record 16 9)).data = beatsOf record 0 25 :=
  beatsOf_append record 0 16 9

/-- The beats of the two writes carry a record of 400 bytes in order, 256 bytes in the first and the rest in the second. -/
theorem dumpWrite_writesRecord {record : List Byte} (len : record.length = 400) (m n addr : Nat) :
    WritesRecord addr record (dumpWrite m addr 16 (beatsOf record 0 16))
      (dumpWrite n (addr + 256) 9 (beatsOf record 16 9)) := by
  have joined := dumpWrite_data_append record m n addr (addr + 256)
  refine ⟨by simp [dumpWrite], rfl, rfl, beatsOf_length _ _ _, rfl, rfl, beatsOf_length _ _ _, ?strobes, ?bytes⟩
  case strobes =>
    intro x hx
    rw [joined] at hx
    exact beatsOf_strobes hx
  case bytes =>
    intro k hk
    have at_k : record[k]? = some record[k] := List.getElem?_eq_getElem (by omega)
    obtain ⟨x, beat, byte⟩ := beatsOf_byte (count := 25) (by omega) at_k
    exact ⟨x, joined ▸ beat, at_k.trans (congrArg some byte.symm)⟩

/-- Taking the record of the dump's stream: the two writes wait at the downstream port behind those formed before them,
the dump awaits two responses, and nothing else changes. -/
theorem State.dumpSnapshot_eq (s : State) (d : Dump) : ∃ a b record, DumpRecordOf d.stream (s.stream d.stream) record
    ∧ WritesRecord (d.dest + 400 * (d.stream.val - d.first)) record a b
    ∧ s.dumpSnapshot d = { s with
        transit := { s.transit with
          downWaiting := s.transit.downWaiting ++ [a, b]
          ownCount := s.transit.ownCount + 2 }
        port := { s.port with dump := some { d with snapshot := some record, awaiting := 2 } } } := by
  refine ⟨_, _, _, dumpRecord_dumpRecordOf _ _, dumpWrite_writesRecord (dumpRecord_length _ _) s.transit.ownCount
    (s.transit.ownCount + 1) _, ?_⟩
  simp only [State.dumpSnapshot, Transit.formOwn, Transit.form, List.append_assoc, List.cons_append, List.nil_append]
  rfl

/-! ### Beginning the dump's stream (R182) -/

theorem Evaluator.evaluating_iff (e : Evaluator) (i : Fin 16) :
    e.evaluating i = true ↔ ∃ x, e.current = some x ∧ x.frame.stream = i := by
  unfold Evaluator.evaluating
  cases e.current <;> simp

/-- A stream in evaluation is waited for. -/
theorem State.dumpBegin_of_evaluating {s : State} {d : Dump}
    (h : ∃ x, s.evals.current = some x ∧ x.frame.stream = d.stream) :
    s.dumpBegin d = { s with port := { s.port with dump := some { d with snapshot := none, awaiting := 0 } } } :=
  if_pos ((s.evals.evaluating_iff d.stream).2 h)

/-- The record of a stream not in evaluation is taken at once. -/
theorem State.dumpBegin_of_idle {s : State} {d : Dump}
    (h : ∀ x, s.evals.current = some x → x.frame.stream ≠ d.stream) :
    s.dumpBegin d = s.dumpSnapshot d := by
  refine if_neg fun evaluating => ?_
  obtain ⟨x, current, same⟩ := (s.evals.evaluating_iff d.stream).1 evaluating
  exact h x current same

end Sys2Proof.Machine
end

section
/-! PROOFS. The commands SET POOL, SET SCREEN and DUMP TILES (R97, R176, R181): the fields of each one's frame, what each
answers to a frame that the part hears, and the two statements about them. -/

namespace Sys2Proof.Machine

/-! ### The fields of the three frames (R97, R176, R181) -/

theorem field_leBytes {n v : Nat} (h : v < 256 ^ n) : field (leBytes n v) 0 n = v := field_append_last [] 0 n v rfl h

theorem field_leBytes_append {n v : Nat} (h : v < 256 ^ n) (post : List Byte) :
    field (leBytes n v ++ post) 0 n = v := field_append [] post 0 n v rfl h

theorem field_leBytes_skip (m v n : Nat) {off : Nat} (post : List Byte) (h : m ≤ off) :
    field (leBytes m v ++ post) off n = field post (off - m) n := by
  rw [field_eq, field_eq, bytesAt_leBytes_skip m v n post h]

/-- The parameters of SET POOL (R176). -/
def poolParameters (base review size count : Nat) : List Byte :=
  leBytes 5 base ++ leBytes 5 review ++ leBytes 4 size ++ leBytes 1 count

theorem poolParameters_length (base review size count : Nat) : (poolParameters base review size count).length = 15 := by
  simp [poolParameters]

theorem poolParameters_fields {base review size count : Nat} (hb : base < 256 ^ 5) (hr : review < 256 ^ 5)
    (hs : size < 256 ^ 4) (hc : count < 256 ^ 1) :
    field (poolParameters base review size count) 0 5 = base
      ∧ field (poolParameters base review size count) 5 5 = review
      ∧ field (poolParameters base review size count) 10 4 = size
      ∧ field (poolParameters base review size count) 14 1 = count := by
  simp only [poolParameters, List.append_assoc, field_leBytes_skip, field_leBytes_append, field_leBytes, hb, hr, hs, hc,
    Nat.reduceLeDiff, Nat.reduceSub, le_refl, and_self]

/-- The parameters of SET SCREEN (R97). -/
def screenParameters (number base w h timeout : Nat) : List Byte :=
  leBytes 1 number ++ leBytes 5 base ++ leBytes 2 w ++ leBytes 2 h ++ leBytes 2 timeout

theorem screenParameters_length (number base w h timeout : Nat) :
    (screenParameters number base w h timeout).length = 12 := by
  simp [screenParameters]

theorem screenParameters_number {number : Nat} (hn : number < 256 ^ 1) (base w h timeout : Nat) :
    field (screenParameters number base w h timeout) 0 1 = number := by
  simp only [screenParameters, List.append_assoc]
  exact field_leBytes_append hn _

theorem screenParameters_fields (number : Nat) {base w h timeout : Nat} (hb : base < 256 ^ 5) (hw : w < 256 ^ 2)
    (hh : h < 256 ^ 2) (ht : timeout < 256 ^ 2) :
    field (screenParameters number base w h timeout) 1 5 = base
      ∧ field (screenParameters number base w h timeout) 6 2 = w
      ∧ field (screenParameters number base w h timeout) 8 2 = h
      ∧ field (screenParameters number base w h timeout) 10 2 = timeout := by
  simp only [screenParameters, List.append_assoc, field_leBytes_skip, field_leBytes_append, field_leBytes, hb, hw, hh, ht,
    Nat.reduceLeDiff, Nat.reduceSub, le_refl, and_self]

/-- The parameters of DUMP TILES (R181). -/
def dumpParameters (first last dest : Nat) : List Byte := leBytes 1 first ++ leBytes 1 last ++ leBytes 5 dest

theorem dumpParameters_length (first last dest : Nat) : (dumpParameters first last dest).length = 7 := by
  simp [dumpParameters]

theorem dumpParameters_fields {first last dest : Nat} (hf : first < 256 ^ 1) (hl : last < 256 ^ 1)
    (hd : dest < 256 ^ 5) :
    field (dumpParameters first last dest) 0 1 = first ∧ field (dumpParameters first last dest) 1 1 = last
      ∧ field (dumpParameters first last dest) 2 5 = dest := by
  simp only [dumpParameters, List.append_assoc, field_leBytes_skip, field_leBytes_append, field_leBytes, hf, hl, hd,
    Nat.reduceLeDiff, Nat.reduceSub, le_refl, and_self]

/-! ### A frame that the part hears -/

/-- A frame with as many parameters as its command takes reaches the command. -/
theorem State.request_frameOf {s : State} (hears : s.hears) {n : Nat} {ps : List Byte} (len : ps.length = n)
    (small : n ≤ 250) (k : List Byte → State → State) :
    s.request (takes n) (frameOf ps) k = k ps (s.driveZeros (frameOf ps)) := by
  subst len
  exact s.request_good hears _ ps rfl small k

/-! ### SET POOL (R45, R176) -/

section SetPool
variable {s : State} {base review size count : Nat}

/-- In ACTIVE the pool stays as it is. -/
theorem exec_setPool_of_active (hears : s.hears) (active : s.transit.mode = .active) :
    exec (.setPool (frameOf (poolParameters base review size count))) s = .next (s.responds 17 .state []) := by
  refine congrArg Host.Outcome.next ((State.request_frameOf hears (poolParameters_length ..) (by omega) _).trans ?_)
  exact if_pos active

/-- Outside ACTIVE the pool is rebuilt when every value is one that R176 takes. -/
theorem exec_setPool_of_not_active (hears : s.hears) (inactive : s.transit.mode ≠ .active) (hb : base < 256 ^ 5)
    (hr : review < 256 ^ 5) (hs : size < 256 ^ 4) (hc : count < 256 ^ 1) :
    exec (.setPool (frameOf (poolParameters base review size count))) s = .next (
      if base % 4096 = 0 ∧ base ≤ 68719476735 ∧ review % 4096 = 0 ∧ review ≤ 68719476735 ∧ 0 < size ∧ size % 4096 = 0
          ∧ 2 ≤ count ∧ count ≤ 64 then
        (s.modPool (fun _ => SlotPool.rebuild base review size count)).responds 17 .done []
      else s.responds 17 .badParam []) := by
  obtain ⟨baseAt, reviewAt, sizeAt, countAt⟩ := poolParameters_fields hb hr hs hc
  refine congrArg Host.Outcome.next ((State.request_frameOf hears (poolParameters_length ..) (by omega) _).trans ?_)
  simp only [State.doSetPool, State.driveZeros_transit, if_neg inactive, baseAt, reviewAt, sizeAt, countAt, Config.addrEnd]
  split
  · rw [if_neg (by omega)]
    rfl
  · rw [if_pos (by omega)]
    rfl

end SetPool

/-! ### SET SCREEN (R97) -/

section SetScreen
variable {s : State} {number base w h timeout : Nat}

/-- A number above 1 names no screen. -/
theorem exec_setScreen_of_no_screen (hears : s.hears) (above : 2 ≤ number) (hn : number < 256 ^ 1) :
    exec (.setScreen (frameOf (screenParameters number base w h timeout))) s = .next (s.responds 14 .badParam []) := by
  have numberAt := screenParameters_number hn base w h timeout
  refine congrArg Host.Outcome.next ((State.request_frameOf hears (screenParameters_length ..) (by omega) _).trans ?_)
  simp only [State.doSetScreen, numberAt, index?_eq_none.2 above]
  rfl

/-- The refusals of R97 in their order; else the record of the screen is set. -/
theorem exec_setScreen_of_screen (hears : s.hears) (c : Fin 2) (hb : base < 256 ^ 5) (hw : w < 256 ^ 2)
    (hh : h < 256 ^ 2) (ht : timeout < 256 ^ 2) :
    exec (.setScreen (frameOf (screenParameters c.val base w h timeout))) s = .next (
      if w < 320 ∨ 1920 < w ∨ w % 4 ≠ 0 ∨ h < 240 ∨ 1200 < h ∨ base % 4096 ≠ 0 ∨ 68719476736 ≤ base then
        s.responds 14 .badParam []
      else if s.transit.mode = .active ∧ ((s.screen c).isSet = false ∨ (s.screen c).base ≠ base ∨ (s.screen c).w ≠ w
          ∨ (s.screen c).h ≠ h) then s.responds 14 .state []
      else (s.modScreen c (fun x => { x with
          isSet := true, base := base, w := w, h := h, timeout := clamp 20 1000 timeout })).responds 14
        .done (leBytes 2 (clamp 20 1000 timeout))) := by
  have numberAt := screenParameters_number (number := c.val) (by omega) base w h timeout
  obtain ⟨baseAt, wAt, hAt, timeoutAt⟩ := screenParameters_fields c.val hb hw hh ht
  refine congrArg Host.Outcome.next ((State.request_frameOf hears (screenParameters_length ..) (by omega) _).trans ?_)
  simp only [State.doSetScreen, numberAt, baseAt, wAt, hAt, timeoutAt, index?_val]
  rfl

end SetScreen

/-- Settles O39: each branch of SET POOL and of SET SCREEN is a clause of the statement; the record that `rebuild` gives
each slot, and the clamp of the timeout, are written out there. -/
theorem poolAndScreenSettings : Obligations.PoolAndScreenSettings := by
  refine ⟨?pool, ?noScreen, ?screen⟩
  case pool =>
    intro s base review size count body hears hb hr hs hc frame
    exact frame ▸ ⟨exec_setPool_of_active hears, fun inactive => exec_setPool_of_not_active hears inactive hb hr hs hc⟩
  case noScreen =>
    intro s number base w h timeout hears above hn
    exact exec_setScreen_of_no_screen hears above hn
  case screen =>
    intro s c base w h timeout body hears hb hw hh ht frame
    exact frame ▸ exec_setScreen_of_screen hears c hb hw hh ht

/-! ### DUMP TILES (R181, R182) -/

/-- A window meets a range of bytes when one of its bytes lies in the range. -/
theorem Window.meets_iff (w : Window) (first stop : Nat) : w.meets first stop = true ↔
    ∃ b, w.base ≤ b ∧ b < w.base + w.extent ∧ first ≤ b ∧ b < stop := by
  rw [Window.meets, Window.stop, decide_eq_true_iff]
  constructor
  · intro h
    exact ⟨max w.base first, by omega⟩
  · rintro ⟨b, h⟩
    omega

theorem State.standingWindows_meet_iff (s : State) (first stop : Nat) :
    s.standingWindows.any (fun w => w.meets first stop) = true ↔
      ∃ w ∈ s.standingWindows, ∃ b, w.base ≤ b ∧ b < w.base + w.extent ∧ first ≤ b ∧ b < stop := by
  simp only [List.any_eq_true, Window.meets_iff]

/-- Beginning a dump touches neither the buffer nor MISO. -/
theorem State.driveZeros_dumpBegin_reply (s : State) (body : List Byte) (d : Dump) (st : Status) (data : List Byte) :
    ((s.driveZeros body).dumpBegin d).reply st data = (s.dumpBegin d).responds (body.length + 1) st data := by
  unfold State.dumpBegin
  by_cases waits : s.evals.evaluating d.stream = true
  · rw [State.driveZeros_evals, if_pos waits, if_pos waits]
    rfl
  · rw [State.driveZeros_evals, if_neg waits, if_neg waits]
    rfl

section DumpTiles
variable {s : State} {last dest : Nat}

/-- A first number above 15 names no stream. -/
theorem exec_dumpTiles_of_no_stream {number : Nat} (hears : s.hears) (above : 16 ≤ number) (hn : number < 256 ^ 1)
    (hl : last < 256 ^ 1) (hd : dest < 256 ^ 5) :
    exec (.dumpTiles (frameOf (dumpParameters number last dest))) s = .next (s.responds 9 .badParam []) := by
  obtain ⟨firstAt, -, -⟩ := dumpParameters_fields hn hl hd
  refine congrArg Host.Outcome.next ((State.request_frameOf hears (dumpParameters_length ..) (by omega) _).trans ?_)
  simp only [State.doDumpTiles, firstAt, index?_eq_none.2 above]
  rfl

/-- The refusals of R181 in their order; else the dump of the first stream is begun. -/
theorem exec_dumpTiles_of_stream (hears : s.hears) (first : Fin 16) (hl : last < 256 ^ 1) (hd : dest < 256 ^ 5) :
    exec (.dumpTiles (frameOf (dumpParameters first.val last dest))) s = .next (
      if min 15 last < first.val ∨ dest % 16 ≠ 0 then s.responds 9 .badParam []
      else if 68719476736 < dest + 400 * (min 15 last - first.val + 1)
          ∨ s.standingWindows.any (fun w => w.meets dest (dest + 400 * (min 15 last - first.val + 1))) = true then
        s.responds 9 .badAddress []
      else if s.port.dump.isSome = true then s.responds 9 .busy []
      else (s.dumpBegin ⟨first.val, min 15 last, dest, first, none, 0, false, 0⟩).responds 9 .accepted []) := by
  obtain ⟨firstAt, lastAt, destAt⟩ := dumpParameters_fields (first := first.val) (by omega) hl hd
  refine congrArg Host.Outcome.next ((State.request_frameOf hears (dumpParameters_length ..) (by omega) _).trans ?_)
  simp only [State.doDumpTiles, firstAt, lastAt, destAt, index?_val, State.driveZeros_dumpBegin_reply]
  rfl

end DumpTiles

/-- Settles O48: the refusals come in the order of R181, and the dump begins with the record of the first stream, or with
the wait for its evaluation. -/
theorem dumpStarts : Obligations.DumpStarts := by
  intro s number last dest l stop body hears hn hl hd frame l_eq stop_eq
  subst frame l_eq stop_eq
  refine ⟨fun bad => ?malformed, ?formed⟩
  case malformed =>
    by_cases above : 16 ≤ number
    · exact exec_dumpTiles_of_no_stream hears above hn hl hd
    · refine (exec_dumpTiles_of_stream hears ⟨number, by omega⟩ hl hd).trans (congrArg Host.Outcome.next ?_)
      exact if_pos bad
  case formed =>
    rintro first rfl inOrder aligned
    have run := exec_dumpTiles_of_stream hears first hl hd
    rw [if_neg (by omega)] at run
    refine ⟨fun bad => run.trans ?badAddress, fun below apart => ?_⟩
    case badAddress => rw [if_pos (bad.imp_right (s.standingWindows_meet_iff _ _).2)]
    have clear : ¬ s.standingWindows.any (fun w => w.meets dest (dest + 400 * (min 15 last - first.val + 1))) = true := by
      intro meets
      obtain ⟨w, mem, b, from_base, to_end, inside⟩ := (s.standingWindows_meet_iff _ _).1 meets
      exact apart w mem b from_base to_end inside
    rw [if_neg (not_or.2 ⟨below.not_gt, clear⟩)] at run
    refine ⟨fun running => run.trans ?busy, fun idle waits => run.trans ?wait, fun idle free => ?start⟩
    case busy => rw [if_pos (Option.isSome_iff_ne_none.2 running)]
    case wait => rw [idle, if_neg (by decide), State.dumpBegin_of_evaluating waits]
    case start =>
      obtain ⟨a, b, record, isRecord, writes, begun⟩ :=
        s.dumpSnapshot_eq ⟨first.val, min 15 last, dest, first, none, 0, false, 0⟩
      rw [idle, if_neg (by decide), State.dumpBegin_of_idle free, begun] at run
      rw [Nat.sub_self, Nat.mul_zero, Nat.add_zero] at writes
      exact ⟨_, a, b, record, isRecord, run, rfl, rfl, writes, rfl, rfl, rfl, rfl⟩

end Sys2Proof.Machine
end

section
/-! PROOFS. What every step keeps, the leaves: the kept properties of Safety.lean split by the block they speak of, the
relation `Keeps` between a state and a later one, and what one update of one block, or one notice, keeps. -/

namespace Sys2Proof.Machine

/-! ### The kept properties, block by block -/

/-- A change is pending, and its command executing, exactly in DRAINING: `DrainConsistent` but for what is in flight. -/
def State.ChangePending (s : State) : Prop :=
  (s.transit.mode = .draining ↔ s.transit.change ≠ .none)
    ∧ (s.transit.mode = .draining ↔ s.port.buffer = .pending s.transit.change)
    ∧ ∀ c, s.port.buffer = .pending c → s.transit.mode = .draining

/-- A drain that stands has a transaction in flight, unless RESET_N has cut it off (R14, R15). -/
def State.DrainStands (s : State) : Prop :=
  s.inReset = false → s.transit.mode = .draining → s.transit.reads ≠ [] ∨ s.transit.writes ≠ []

theorem State.drainConsistent_iff (s : State) : s.DrainConsistent ↔ s.ChangePending ∧ s.DrainStands := by
  simp only [State.DrainConsistent, State.ChangePending, State.DrainStands, and_assoc]

/-- The freshness timer and its limit (R17, R184). -/
def Stream.Ahead (now : Time) (st : Stream) : Prop :=
  st.cfg.ageLimit ≤ 2000 ∧ ∀ e, st.cap.timer = some e → (e - now).toNat ≤ 2000

/-- A screen frame's timer and its limit (R97, R184). -/
def Screen.Ahead (now : Time) (x : Screen) : Prop :=
  x.timeout ≤ 1000 ∧ ∀ f e, x.frame = some f → f.timer = some e → f.expired = false ∧ (e - now).toNat ≤ 1000

/-- The linger timer of a side, at most 30,000 ms ahead (R134, R184). -/
def Side.Ahead (now : Time) (x : Side) : Prop := ∀ e, x.timer = some e → (e - now).toNat ≤ 30000

/-- The linger timers of the sides and their limit (R134, R184). -/
def LineMonitor.Ahead (now : Time) (m : LineMonitor) : Prop := m.linger ≤ 30000 ∧ ∀ x : Fin 2, m.sides[x].Ahead now

/-- The notice linger timer and its limit (R168, R184). -/
def NoticeQueue.Ahead (now : Time) (q : NoticeQueue) : Prop :=
  q.linger ≤ 1000 ∧ ∀ e, q.timer = some e → (e - now).toNat ≤ 1000

theorem State.timersAhead_iff (s : State) : s.TimersAhead ↔
    (∀ i, (s.stream i).Ahead s.time) ∧ (∀ c, (s.screen c).Ahead s.time) ∧ s.lines.Ahead s.time ∧ s.notices.Ahead s.time := by
  simp only [State.TimersAhead, Stream.Ahead, Screen.Ahead, LineMonitor.Ahead, Side.Ahead, NoticeQueue.Ahead, and_assoc]

/-- The sums and the carried luma of an accumulator set are those of byte values (R67). -/
def Accumulators.Bounded (a : Accumulators) : Prop :=
  (∀ t : Fin 48, a.tiles[t].edge ≤ 255 * a.tiles[t].grad) ∧ ∀ y p, a.carried = some (y, p) → y ≤ 255

/-- B, E and Q of a tile lie within their ranges (R82, R84, R86). -/
def Tile.Bounded (x : Tile) : Prop := x.baseline ≤ 65280 ∧ x.lastE ≤ 65280 ∧ x.lastQ ≤ 1023

/-- The part of `EnergiesBounded` that speaks of one stream. -/
def Stream.Bounded (st : Stream) : Prop := (∀ t : Fin 48, st.tiles[t].Bounded) ∧ st.acc.Bounded

/-- The part of `EnergiesBounded` that speaks of the frame records. -/
def Evaluator.Bounded (e : Evaluator) : Prop :=
  (∀ r ∈ e.queue, r.EdgesBounded) ∧ ∀ x, e.current = some x → x.frame.EdgesBounded

theorem State.energiesBounded_iff (s : State) :
    s.EnergiesBounded ↔ (∀ i, (s.stream i).Bounded) ∧ s.evals.Bounded := by
  simp only [State.EnergiesBounded, Stream.Bounded, Tile.Bounded, Accumulators.Bounded, Evaluator.Bounded, forall_and]
  tauto

/-- The part of `FreshnessTimed` that speaks of one stream. -/
def Capture.Timed (c : Capture) : Prop := c.timer.isSome = true ↔ c.freshness = .live

/-- The part of `LensNeedsEightTiles` that speaks of one stream. -/
def Stream.LensJudged (st : Stream) : Prop := countTiles st.cfg st.tiles Tile.past < 8 → st.lens.state = .learning

/-- At most 4 records are queued, and none in an idle engine. -/
def Evaluator.Queued (e : Evaluator) : Prop := e.queue.length ≤ 4 ∧ (e.current = none → e.queue = [])

/-- At most 8 slots are held, and the ids lie in 1–8 and differ. -/
def HoldTable.Bounded (t : HoldTable) : Prop :=
  t.total ≤ 8 ∧ (∀ g ∈ t.groups, 1 ≤ g.id ∧ g.id ≤ 8) ∧ (t.groups.map Group.id).Nodup

/-- `NoticesCoalesced` of one queue. -/
def NoticeQueue.Coalesced (q : NoticeQueue) : Prop :=
  q.records.length ≤ 32 ∧ (∀ r ∈ q.records, 1 ≤ r.repeats ∧ r.repeats ≤ 255)
    ∧ ∀ (k : Nat) (a b : Notice), q.records[k]? = some a → q.records[k + 1]? = some b →
        a.kind.coalescing = true → a.kind = b.kind → a.subject = b.subject → a.repeats = 255 ∨ 0 < b.lostBefore

/-- `NtfFollows` of one queue: NTF_N stands as its conditions have it (R167). -/
def NoticeQueue.Follows (q : NoticeQueue) : Prop := q.asserted = q.lineCondition

theorem NoticeQueue.lineCondition_iff (q : NoticeQueue) : q.lineCondition = true ↔ q.records ≠ []
    ∧ (q.trigger ≤ q.records.length ∨ q.due = true
      ∨ ∃ r ∈ q.records, r.kind = .doorBlind ∨ q.immediate.getLsbD r.kind.code = true) := by
  rw [← NoticeQueue.immediateHolds_iff]
  simp [NoticeQueue.lineCondition, NoticeQueue.countHolds, or_assoc]

theorem State.ntfFollows_iff (s : State) : s.NtfFollows ↔ s.notices.Follows := by
  unfold State.NtfFollows NoticeQueue.Follows
  rw [← NoticeQueue.lineCondition_iff, ← Bool.eq_iff_iff]

/-! ### The relation -/

/-- Every kept property of s holds of t, but for what a standing drain has in flight; the queue of commands is left. -/
structure Keeps (s t : State) : Prop where
  pending : t.pending = s.pending := by rfl
  inFlight : s.InFlightBounded → t.InFlightBounded := by exact id
  map : s.MapEmptyInPass → t.MapEmptyInPass := by exact id
  change : s.ChangePending → t.ChangePending := by exact id
  freeList : s.FreeListExact → t.FreeListExact := by exact id
  freshness : s.FreshnessTimed → t.FreshnessTimed := by exact id
  queue : s.EvaluationQueued → t.EvaluationQueued := by exact id
  energies : s.EnergiesBounded → t.EnergiesBounded := by exact id
  lens : s.LensNeedsEightTiles → t.LensNeedsEightTiles := by exact id
  hidden : s.HiddenFlagExact → t.HiddenFlagExact := by exact id
  holds : s.HoldsBounded → t.HoldsBounded := by exact id
  coalesced : s.NoticesCoalesced → t.NoticesCoalesced := by exact id
  ntf : s.NtfFollows → t.NtfFollows := by exact id
  timers : s.TimersAhead → t.TimersAhead := by exact id

/-- Every kept property of s holds of t. -/
structure KeepsAll (s t : State) : Prop extends Keeps s t where
  stands : s.ChangePending → s.DrainStands → t.DrainStands := by exact fun _ h => h

theorem Keeps.refl (s : State) : Keeps s s := {}

theorem Keeps.trans {s t u : State} (h : Keeps s t) (k : Keeps t u) : Keeps s u where
  pending := k.pending.trans h.pending
  inFlight := k.inFlight ∘ h.inFlight
  map := k.map ∘ h.map
  change := k.change ∘ h.change
  freeList := k.freeList ∘ h.freeList
  freshness := k.freshness ∘ h.freshness
  queue := k.queue ∘ h.queue
  energies := k.energies ∘ h.energies
  lens := k.lens ∘ h.lens
  hidden := k.hidden ∘ h.hidden
  holds := k.holds ∘ h.holds
  coalesced := k.coalesced ∘ h.coalesced
  ntf := k.ntf ∘ h.ntf
  timers := k.timers ∘ h.timers

theorem KeepsAll.refl (s : State) : KeepsAll s s := {}

theorem KeepsAll.trans {s t u : State} (h : KeepsAll s t) (k : KeepsAll t u) : KeepsAll s u where
  toKeeps := h.toKeeps.trans k.toKeeps
  stands := fun c d => k.stands (h.change c) (h.stands c d)

theorem KeepsAll.drain {s t : State} (h : KeepsAll s t) (d : s.DrainConsistent) : t.DrainConsistent := by
  obtain ⟨c, st⟩ := s.drainConsistent_iff.1 d
  exact t.drainConsistent_iff.2 ⟨h.change c, h.stands c st⟩

/-- A list of events that each keep the properties keeps them. -/
theorem KeepsAll.foldl {α : Type} {f : State → α → State} {l : List α} (h : ∀ s, ∀ a ∈ l, KeepsAll s (f s a)) (s : State) :
    KeepsAll s (l.foldl f s) := by
  induction l generalizing s with
  | nil => exact .refl s
  | cons a l ih => exact (h s a (by simp)).trans (ih (fun s b hb => h s b (by simp [hb])) _)

/-! ### Updates of the pool, the holds and the port -/

theorem State.modPool_keeps (s : State) (f : SlotPool → SlotPool) (h : s.pool.FreeListExact → (f s.pool).FreeListExact) :
    KeepsAll s (s.modPool f) := { freeList := h }

theorem State.modHolds_keeps (s : State) (f : HoldTable → HoldTable) (h : s.holds.Bounded → (f s.holds).Bounded) :
    KeepsAll s (s.modHolds f) := { holds := h }

/-- The Control Port matters to the kept properties by its buffer alone. -/
theorem State.modPort_keeps (s : State) (f : ControlPort → ControlPort) (h : (f s.port).buffer = s.port.buffer) :
    KeepsAll s (s.modPort f) where
  change := by simp only [State.ChangePending, State.modPort_transit, State.modPort_port, h]; exact id

/-! ### Updates of the Transit Path -/

/-- The Transit Path matters by the mode, the change, the map and the numbers in flight. -/
theorem State.modTransit_keeps (s : State) (f : Transit → Transit) (mode : (f s.transit).mode = s.transit.mode)
    (change : (f s.transit).change = s.transit.change) (drainedFrom : (f s.transit).drainedFrom = s.transit.drainedFrom)
    (windows : (f s.transit).windows = s.transit.windows)
    (reads : (f s.transit).reads.length = s.transit.reads.length)
    (writes : (f s.transit).writes.length = s.transit.writes.length) : KeepsAll s (s.modTransit f) where
  inFlight := by simp only [State.InFlightBounded, State.modTransit_transit, reads, writes]; exact id
  map := by simp only [State.MapEmptyInPass, State.modTransit_transit, mode, drainedFrom, windows]; exact id
  change := by simp only [State.ChangePending, State.modTransit_transit, State.modTransit_port, mode, change]; exact id
  stands := by
    simp only [State.DrainStands, State.modTransit_transit, State.modTransit_inReset, mode, ne_eq,
      ← List.length_eq_zero_iff, reads, writes]
    exact fun _ h => h

/-! ### Updates of one stream -/

/-- Every kept property of one stream's record holds of a later one. -/
structure Stream.Keeps (now : Time) (st st' : Stream) : Prop where
  timed : st.cap.Timed → st'.cap.Timed := by exact id
  bounded : st.Bounded → st'.Bounded := by exact id
  judged : st.LensJudged → st'.LensJudged := by exact id
  ahead : st.Ahead now → st'.Ahead now := by exact id

/-- What holds of each stream holds after one stream has changed when that one keeps it. -/
theorem State.forall_modStream {s : State} {i : Fin 16} {f : Stream → Stream} {p : Stream → Prop}
    (h : p (s.stream i) → p (f (s.stream i))) (all : ∀ j, p (s.stream j)) (j : Fin 16) : p ((s.modStream i f).stream j) := by
  rw [State.modStream_stream]
  by_cases e : i = j
  · subst e; rw [if_pos rfl]; exact h (all i)
  · rw [if_neg e]; exact all j

/-- A change of one stream's record, where the bounds of the new record may rest on all the old ones. -/
theorem State.modStream_keeps_of_bounded (s : State) (i : Fin 16) (f : Stream → Stream)
    (timed : (s.stream i).cap.Timed → (f (s.stream i)).cap.Timed)
    (bounded : s.EnergiesBounded → (f (s.stream i)).Bounded)
    (judged : (s.stream i).LensJudged → (f (s.stream i)).LensJudged)
    (ahead : (s.stream i).Ahead s.time → (f (s.stream i)).Ahead s.time) : KeepsAll s (s.modStream i f) where
  freshness := State.forall_modStream (p := fun st => st.cap.Timed) timed
  energies := by
    intro all
    obtain ⟨streams, evals⟩ := s.energiesBounded_iff.1 all
    exact (State.energiesBounded_iff _).2
      ⟨State.forall_modStream (p := Stream.Bounded) (fun _ => bounded all) streams, evals⟩
  lens := State.forall_modStream (p := Stream.LensJudged) judged
  timers := by
    simp only [State.timersAhead_iff]
    rintro ⟨streams, rest⟩
    exact ⟨State.forall_modStream (p := Stream.Ahead s.time) ahead streams, rest⟩

theorem State.modStream_keeps (s : State) (i : Fin 16) (f : Stream → Stream)
    (h : (s.stream i).Keeps s.time (f (s.stream i))) : KeepsAll s (s.modStream i f) :=
  s.modStream_keeps_of_bounded i f h.timed (fun all => h.bounded ((s.energiesBounded_iff.1 all).1 i)) h.judged h.ahead

/-- A change of the running part that leaves freshness and its timer. -/
theorem State.modCapture_keeps (s : State) (i : Fin 16) (f : Capture → Capture)
    (freshness : (f (s.stream i).cap).freshness = (s.stream i).cap.freshness)
    (timer : (f (s.stream i).cap).timer = (s.stream i).cap.timer) : KeepsAll s (s.modCapture i f) :=
  s.modStream_keeps i _ {
    timed := by simp only [Capture.Timed, freshness, timer]; exact id
    ahead := by simp only [Stream.Ahead, timer]; exact id }

theorem State.modAcc_keeps (s : State) (i : Fin 16) (f : Accumulators → Accumulators)
    (h : (s.stream i).acc.Bounded → (f (s.stream i).acc).Bounded) : KeepsAll s (s.modAcc i f) :=
  s.modStream_keeps i _ { bounded := fun ⟨tiles, acc⟩ => ⟨tiles, h acc⟩ }

/-! ### Updates of the Evaluation Engine -/

theorem State.modEvals_keeps (s : State) (f : Evaluator → Evaluator) (queued : s.evals.Queued → (f s.evals).Queued)
    (bounded : s.evals.Bounded → (f s.evals).Bounded) : KeepsAll s (s.modEvals f) where
  queue := queued
  energies := by
    simp only [State.energiesBounded_iff]
    exact fun ⟨streams, evals⟩ => ⟨streams, bounded evals⟩

/-! ### Updates of one screen -/

theorem State.modScreen_keeps (s : State) (c : Fin 2) (f : Screen → Screen)
    (h : (s.screen c).Ahead s.time → (f (s.screen c)).Ahead s.time) : KeepsAll s (s.modScreen c f) where
  timers := by
    simp only [State.timersAhead_iff]
    rintro ⟨streams, screens, rest⟩
    refine ⟨streams, fun d => ?_, rest⟩
    rw [State.modScreen_screen, State.modScreen_time]
    by_cases e : c = d
    · subst e; rw [if_pos rfl]; exact h (screens c)
    · rw [if_neg e]; exact screens d

/-- A change of a screen that leaves its frame and its timeout, or takes the frame away. -/
theorem Screen.ahead_of_frame {now : Time} {x y : Screen} (timeout : y.timeout = x.timeout)
    (frame : y.frame = x.frame ∨ y.frame = none) (h : x.Ahead now) : y.Ahead now := by
  refine ⟨timeout ▸ h.1, fun f e hf he => ?_⟩
  obtain same | gone := frame
  · exact h.2 f e (same ▸ hf) he
  · simp [gone] at hf

/-! ### Updates of the Line Monitor -/

/-- New lines, where the hidden flag stays exact and the timers stay ahead. -/
theorem State.modLines_keeps (s : State) (f : LineMonitor → LineMonitor)
    (hidden : s.lines.hidden = s.lines.reverseIsHidden → (f s.lines).hidden = (f s.lines).reverseIsHidden)
    (ahead : s.lines.Ahead s.time → (f s.lines).Ahead s.time) : KeepsAll s (s.modLines f) where
  hidden := fun h out => hidden (h out)
  timers := by
    simp only [State.timersAhead_iff]
    exact fun ⟨streams, screens, lines, notices⟩ => ⟨streams, screens, ahead lines, notices⟩

/-! ### Updates of the Notice Queue -/

/-- Every kept property of a notice queue holds of a later one. -/
structure NoticeQueue.Keeps (now : Time) (q q' : NoticeQueue) : Prop where
  coalesced : q.Coalesced → q'.Coalesced := by exact id
  follows : q.Follows → q'.Follows := by exact id
  ahead : q.Ahead now → q'.Ahead now := by exact id

theorem State.modNotices_keeps (s : State) (f : NoticeQueue → NoticeQueue) (h : s.notices.Keeps s.time (f s.notices)) :
    KeepsAll s (s.modNotices f) where
  coalesced := h.coalesced
  ntf := by simp only [State.ntfFollows_iff]; exact h.follows
  timers := by
    simp only [State.timersAhead_iff]
    exact fun ⟨streams, screens, lines, notices⟩ => ⟨streams, screens, lines, h.ahead notices⟩

namespace NoticeQueue

/-- The line is driven by its condition. -/
theorem follows_driveLine (q : NoticeQueue) : q.driveLine.Follows := rfl

/-- The timer that R166 decides stands ahead by what is left of the linger. -/
theorem ahead_decideLinger (q : NoticeQueue) (now : Time) (h : q.linger ≤ 1000) : (q.decideLinger now).Ahead now := by
  have linger : (q.decideLinger now).linger = q.linger := by
    obtain ⟨d, t, e⟩ := q.decideLinger_frame now; rw [e]
  refine ⟨linger ▸ h, fun e he => ?_⟩
  unfold decideLinger at he
  split at he
  · simp at he
  · split at he
    · simp at he
    · rename_i r _ _ short
      obtain rfl : laterBy r.stamp q.linger = e := by simpa using he
      unfold laterBy
      bv_omega

theorem ahead_driveLine {q : NoticeQueue} {now : Time} (h : q.Ahead now) : q.driveLine.Ahead now := h

/-- The records behind some that leave are coalesced as they were. -/
theorem coalesced_of_drop {q q' : NoticeQueue} (n : Nat) (records : q'.records = q.records.drop n) (h : q.Coalesced) :
    q'.Coalesced := by
  obtain ⟨len, repeats, adjacent⟩ := h
  refine ⟨by simp [records]; omega, fun r hr => repeats r ?_, fun k a b ha hb => adjacent (n + k) a b ?_ ?_⟩
  · rw [records] at hr; exact List.mem_of_mem_drop hr
  · rwa [records, List.getElem?_drop] at ha
  · rwa [records, List.getElem?_drop] at hb

/-- The records as they were are coalesced as they were. -/
theorem coalesced_of_records {q q' : NoticeQueue} (records : q'.records = q.records) (h : q.Coalesced) : q'.Coalesced :=
  coalesced_of_drop 0 (by simpa using records) h

/-- What R164 and R165 keep: a record is only added behind one that it could not be merged into. -/
theorem take_coalesced (q : NoticeQueue) (now : Time) (k : Kind) (subject value : Nat) (h : q.Coalesced) :
    (q.take now k subject value).Coalesced := by
  obtain ⟨-, same⟩ | ⟨-, merged, same⟩ | ⟨-, apart, room, records, -⟩ | ⟨-, -, -, same⟩ := q.take_cases now k subject value
  case inl => rwa [same]
  case inr.inr.inr => rw [same]; exact coalesced_of_records rfl h
  case inr.inl =>
    obtain empty | ⟨older, newest, tail⟩ := q.records.eq_nil_or_concat'
    · simp [merges_of_nil empty] at merged
    · rw [same, mergeNewest_concat tail]
      rw [merges_concat_iff tail] at merged
      obtain ⟨len, repeats, adjacent⟩ := h
      rw [tail] at len repeats adjacent
      refine ⟨by simpa using len, fun r hr => ?_, fun j a b ha hb => ?_⟩
      · obtain old | rfl : r ∈ older ∨ r = _ := by simpa using hr
        · exact repeats r (by simp [old])
        · have := repeats newest (by simp)
          exact ⟨by simp, by simp only; omega⟩
      · have below : j + 1 < (older ++ [newest]).length := by
          simpa using (List.getElem?_eq_some_iff.1 hb).1
        have older_a : (older ++ [newest])[j]? = some a := by
          rw [List.getElem?_append_left (by simp at below; omega)] at ha ⊢
          exact ha
        by_cases last : j + 1 = older.length
        · obtain rfl : _ = b := by simpa [last] using hb
          exact adjacent j a newest older_a (by simp [last])
        · rw [List.getElem?_append_left (by simp at below; omega)] at hb
          exact adjacent j a b older_a (by rw [List.getElem?_append_left (by simp at below; omega)]; exact hb)
  case inr.inr.inl =>
    obtain ⟨len, repeats, adjacent⟩ := h
    refine ⟨by rw [records]; simp [Config.noticeCapacity] at room ⊢; omega, fun r hr => ?_, fun j a b ha hb => ?_⟩
    · rw [records] at hr
      obtain old | rfl : r ∈ q.records ∨ r = _ := by simpa using hr
      · exact repeats r old
      · simp
    · rw [records] at ha hb
      obtain ⟨below, -⟩ := List.getElem?_eq_some_iff.1 hb
      rw [List.getElem?_append_left (by simp at below; omega)] at ha
      by_cases last : j + 1 = q.records.length
      · obtain rfl : _ = b := by simpa [last] using hb
        intro coalescing kind same
        have tail : q.records = q.records.dropLast ++ [a] := by
          have := List.dropLast_append_getLast? a (by rw [List.getLast?_eq_getElem?, ← last]; exact ha)
          exact this.symm
        have not_merged := mt (merges_concat_iff tail).2 (by rw [apart]; simp)
        have := repeats a (List.mem_of_getElem? ha)
        simp only at kind same
        subst kind same
        by_contra neither
        exact not_merged ⟨coalescing, rfl, rfl, by omega, by simp only at neither; omega⟩
      · rw [List.getElem?_append_left (by simp at below; omega)] at hb
        exact adjacent j a b ha hb

/-- A repeat counted in the newest record moves no condition of R167. -/
theorem mergeNewest_lineCondition (q : NoticeQueue) : q.mergeNewest.lineCondition = q.lineCondition := by
  obtain empty | ⟨older, newest, tail⟩ := q.records.eq_nil_or_concat'
  · simp [mergeNewest, empty]
  · rw [mergeNewest_concat tail, Bool.eq_iff_iff, lineCondition_iff, lineCondition_iff]
    simp [tail, or_and_right, exists_or]

theorem take_follows (q : NoticeQueue) (now : Time) (k : Kind) (subject value : Nat) (h : q.Follows) :
    (q.take now k subject value).Follows := by
  obtain ⟨-, same⟩ | ⟨-, -, same⟩ | ⟨-, -, -, -, -, driven⟩ | ⟨-, -, -, same⟩ := q.take_cases now k subject value
  · rwa [same]
  · rw [same]
    have asserted : q.mergeNewest.asserted = q.asserted := by unfold mergeNewest; split <;> rfl
    rw [Follows, asserted, mergeNewest_lineCondition]
    exact h
  · exact driven
  · rw [same]; exact h

theorem take_ahead (q : NoticeQueue) (now : Time) (k : Kind) (subject value : Nat) (h : q.Ahead now) :
    (q.take now k subject value).Ahead now := by
  unfold take
  split
  · exact h
  · split
    · unfold mergeNewest; split <;> exact h
    · by_cases room : q.records.length < 32
      · by_cases empty : q.records = []
        · rw [add_of_nil empty]
          exact ahead_decideLinger _ now h.1
        · rw [add_of_room empty room]
          exact h
      · rw [add_of_full (by omega)]
        exact h

theorem take_keeps (q : NoticeQueue) (now : Time) (k : Kind) (subject value : Nat) :
    q.Keeps now (q.take now k subject value) :=
  ⟨q.take_coalesced now k subject value, q.take_follows now k subject value, q.take_ahead now k subject value⟩

theorem clear_keeps (q : NoticeQueue) (now : Time) : q.Keeps now q.clear where
  coalesced := fun _ => ⟨by simp [clear], by simp [clear], by simp [clear]⟩
  follows := fun _ => by simp [Follows, clear, lineCondition]
  ahead := fun h => ⟨h.1, by simp [clear]⟩

/-- A queue without timer is ahead at every value of part time. -/
theorem clear_ahead {q : NoticeQueue} {now : Time} (h : q.Ahead now) (later : Time) : q.clear.Ahead later :=
  ⟨h.1, by simp [clear]⟩

theorem drop_keeps (q : NoticeQueue) (now : Time) (n : Nat) : q.Keeps now (q.drop now n) := by
  unfold drop
  split
  · exact {}
  · exact {
      coalesced := coalesced_of_drop n (by simp)
      follows := fun _ => follows_driveLine _
      ahead := fun h => ahead_driveLine (ahead_decideLinger _ now h.1) }

theorem setTriggers_keeps (q : NoticeQueue) (now : Time) (trigger linger : Nat) (immediate : BitVec 21)
    (h : linger ≤ 1000) : q.Keeps now (q.setTriggers now trigger linger immediate) where
  coalesced := coalesced_of_records (by simp [setTriggers])
  follows := fun _ => follows_driveLine _
  ahead := fun _ => ahead_driveLine (ahead_decideLinger _ now h)

theorem lingerExpires_keeps (q : NoticeQueue) (now : Time) : q.Keeps now q.lingerExpires where
  coalesced := coalesced_of_records rfl
  follows := fun _ => follows_driveLine _
  ahead := fun h => ⟨h.1, by simp [lingerExpires]⟩

end NoticeQueue

/-- A notice sent keeps every property. -/
theorem State.notify_keeps (s : State) (k : Kind) (subject value : Nat) : KeepsAll s (s.notify k subject value) :=
  s.modNotices_keeps _ (NoticeQueue.take_keeps ..)

end Sys2Proof.Machine
end

section
/-! PROOFS. What every step keeps, the operations of one block: the accumulators and tiles stay within their bounds, a lens
stays LEARNING below 8 learned tiles, the free list stays exact, and the Hold Table stays bounded. -/

namespace Sys2Proof.Machine

/-! ### Accumulators (R62 to R69) -/

theorem lumaOf_le (r g b : Byte) : lumaOf r.toNat g.toNat b.toNat ≤ 255 := by
  unfold lumaOf
  have := r.isLt
  have := g.isLt
  have := b.isLt
  omega

theorem pixelLuma_le {x : WriteBeat} {i y : Nat} (h : pixelLuma x i = some y) : y ≤ 255 := by
  unfold pixelLuma at h
  split at h
  · obtain rfl := Option.some.inj h
    exact lumaOf_le _ _ _
  · cases h

namespace Accumulators

variable {a : Accumulators}

/-- A set whose sums are cleared is bounded, whatever else is set. -/
theorem bounded_of_clear {b : Accumulators} (tiles : b.tiles = Vector.replicate 48 ⟨0, 0, 0, 0⟩) (carried : b.carried = none) :
    b.Bounded := by
  refine ⟨fun t => ?_, fun y p h => by simp [carried] at h⟩
  rw [tiles, replicate_get]
  exact Nat.zero_le _

theorem dropTo_bounded (a : Accumulators) (state : Collection) : (a.dropTo state).Bounded := bounded_of_clear rfl rfl

theorem start_bounded (a : Accumulators) (w h : Nat) : (a.start w h).Bounded := bounded_of_clear rfl rfl

/-- A gradient between two lumas is at most 255. -/
theorem gradient_le (h : a.Bounded) {p y g : Nat} (hy : y ≤ 255) (hg : a.gradient p y = some g) : g ≤ 255 := by
  unfold gradient at hg
  split at hg
  · cases hg
  · rename_i prev q carried
    have := h.2 prev q carried
    split at hg
    · obtain rfl := Option.some.inj hg
      omega
    · cases hg

theorem takePixel_bounded (h : a.Bounded) (p : Nat) {luma : Option Nat} (hl : ∀ y, luma = some y → y ≤ 255) :
    (a.takePixel p luma).Bounded := by
  cases luma with
  | none => exact ⟨h.1, by simp [takePixel]⟩
  | some y =>
    have hy := hl y rfl
    refine ⟨fun t => ?_, fun z q hz => ?_⟩
    · simp only [takePixel]
      rw [modAt_get]
      have old := h.1 t
      split
      · cases hg : a.gradient p y with
        | none => simpa [hg] using old
        | some g =>
          have := gradient_le h hy hg
          simp only [Option.getD_some, Option.isSome_some, if_true]
          omega
      · exact old
    · obtain ⟨rfl, -⟩ : y = z ∧ p = q := by simpa [takePixel] using hz
      exact hy

/-- A fold of changes that keep the bounds keeps them. -/
theorem foldl_bounded {α : Type} {f : Accumulators → α → Accumulators} (hf : ∀ a x, a.Bounded → (f a x).Bounded) (l : List α)
    (h : a.Bounded) : (l.foldl f a).Bounded := by
  induction l generalizing a with
  | nil => exact h
  | cons x l ih => exact ih (hf a x h)

theorem takeWrite_bounded (h : a.Bounded) (offset size : Nat) (beats : List WriteBeat) :
    (a.takeWrite offset size beats).Bounded := by
  unfold takeWrite
  split
  · refine foldl_bounded (fun a x ha => ?_) _ h
    exact foldl_bounded (fun a i ha => takePixel_bounded ha _ fun y => pixelLuma_le) _ ha
  · exact h

theorem afterWrite_bounded (h : a.Bounded) (f : Filling) (w : CaptureWrite) : (a.afterWrite f w).Bounded := by
  unfold afterWrite
  split
  · exact h
  · split
    · exact takeWrite_bounded h _ _ _
    · exact dropTo_bounded a _

theorem frameRecord_bounded (h : a.Bounded) (i : Fin 16) (sequence : Seq) : (a.frameRecord i sequence).EdgesBounded := by
  intro t
  simp only [frameRecord, mapAll_get]
  exact h.1 t

end Accumulators

/-! ### Tiles (R82 to R86) -/

namespace Tile

variable {x : Tile} {z : Soiling} {e : Nat}

/-- The running mean of values within 0–65280 lies there. -/
theorem learnSample_bounded (h : x.Bounded) (he : e ≤ 65280) : (x.learnSample z e).Bounded := by
  obtain ⟨baseline, lastE, lastQ⟩ := h
  have mean : ((x.baseline : Int) + Int.tdiv ((e : Int) - x.baseline) ((x.learned + 1 : Nat) : Int)).toNat ≤ 65280 := by
    obtain up | down := Nat.le_total x.baseline e
    · have h1 : Int.tdiv ((e : Int) - x.baseline) ((x.learned + 1 : Nat) : Int) ≤ (e : Int) - x.baseline :=
        Int.tdiv_le_self _ (by omega)
      omega
    · have h1 := Int.tdiv_nonneg (a := (x.baseline : Int) - e) (b := ((x.learned + 1 : Nat) : Int)) (by omega) (by omega)
      rw [← Int.neg_sub (e : Int), Int.neg_tdiv] at h1
      omega
  unfold learnSample
  dsimp only
  split <;> exact ⟨mean, lastE, lastQ⟩

/-- The hysteresis moves the state and the persistence counter only. -/
theorem hysteresis_frame (z : Soiling) (x : Tile) (q : Nat) :
    ∃ state persist, x.hysteresis z q = { x with state := state, persist := persist } := by
  unfold hysteresis
  cases x.state <;> simp only [] <;> repeat' split
  all_goals exact ⟨_, _, rfl⟩

/-- A tile that has completed learning stays so under the hysteresis. -/
theorem hysteresis_past {q : Nat} (h : x.past = true) : (x.hysteresis z q).past = true := by
  unfold past at h ⊢
  unfold hysteresis
  cases hs : x.state <;> simp only [hs] at h ⊢
  case learning => simp at h
  all_goals repeat' split
  all_goals simp

theorem adaptBaseline_bounded (h : x.Bounded) : (x.adaptBaseline z e).Bounded := by
  unfold adaptBaseline
  dsimp only
  split
  · exact ⟨Nat.min_le_left _ _, h.2⟩
  · exact h

theorem classify_bounded (h : x.Bounded) : (x.classify z e).Bounded := by
  unfold classify
  dsimp only
  split
  · refine adaptBaseline_bounded ?_
    obtain ⟨state, persist, same⟩ := hysteresis_frame z { x with lastQ := ratioOf e x.baseline } (ratioOf e x.baseline)
    rw [same]
    exact ⟨h.1, h.2.1, Nat.min_le_left _ _⟩
  · exact h

theorem classify_past (h : x.past = true) : (x.classify z e).past = true := by
  unfold classify
  dsimp only
  split
  · have : (hysteresis z { x with lastQ := ratioOf e x.baseline } (ratioOf e x.baseline)).past = true := hysteresis_past h
    unfold adaptBaseline
    dsimp only
    split <;> exact this
  · exact h

end Tile

/-- The edge energy of bounded sums lies within 0–65280. -/
theorem edgeEnergy_le {edge grad e : Nat} (h : edge ≤ 255 * grad) (he : edgeEnergy edge grad = some e) : e ≤ 65280 := by
  unfold edgeEnergy at he
  split at he
  · obtain rfl := Option.some.inj he
    exact Nat.div_le_of_le_mul (by omega)
  · cases he

theorem Tile.evaluate_bounded {x : Tile} (z : Soiling) {edge grad : Nat} (h : x.Bounded) (sums : edge ≤ 255 * grad) :
    (x.evaluate z edge grad).Bounded := by
  unfold Tile.evaluate
  cases he : edgeEnergy edge grad with
  | none => exact h
  | some e =>
    have le := edgeEnergy_le sums he
    have taken : ({ x with lastE := e } : Tile).Bounded := ⟨h.1, le, h.2.2⟩
    dsimp only
    split
    · exact Tile.learnSample_bounded taken le
    · exact Tile.classify_bounded taken

/-- A tile past learning does not go back in an evaluation. -/
theorem Tile.evaluate_past {x : Tile} (z : Soiling) (edge grad : Nat) (h : x.past = true) :
    (x.evaluate z edge grad).past = true := by
  have state : x.state ≠ .learning := by simpa [Tile.past] using h
  unfold Tile.evaluate
  cases edgeEnergy edge grad with
  | none => exact h
  | some e =>
    dsimp only
    rw [if_neg state]
    exact Tile.classify_past h

/-! ### The lens (R87, R88, R91) -/

/-- What holds of more tiles is counted at least as often. -/
theorem countTiles_mono {c : StreamConfig} {tiles tiles' : Vector Tile 48} {p : Tile → Bool}
    (h : ∀ t : Fin 48, p tiles[t] = true → p tiles'[t] = true) : countTiles c tiles p ≤ countTiles c tiles' p := by
  unfold countTiles
  refine (List.monotone_filter_right _ fun t ht => ?_).length_le
  simp only [Bool.and_eq_true] at ht ⊢
  exact ⟨ht.1, h t ht.2⟩

/-- The count depends on the exclusions alone. -/
theorem countTiles_congr {c c' : StreamConfig} (rows : c'.exRows = c.exRows) (cols : c'.exCols = c.exCols)
    (tiles : Vector Tile 48) (p : Tile → Bool) : countTiles c' tiles p = countTiles c tiles p := by
  simp only [countTiles, StreamConfig.excludes, rows, cols]

/-- A lens that has fewer than 8 learned tiles to count is not judged. -/
theorem Lens.judge_state_of_few (z : Soiling) (x : Lens) {counted : Nat} (blurred : Nat) (h : counted < 8) :
    (x.judge z counted blurred).state = x.state := by
  unfold Lens.judge
  dsimp only
  rw [if_pos h]

/-- An evaluation keeps what holds of one stream. -/
theorem Stream.evaluated_keeps (z : Soiling) (st : Stream) (r : FrameRecord) :
    (st.evaluated z r).cfg = st.cfg ∧ (st.evaluated z r).cap = st.cap
      ∧ (r.EdgesBounded → st.Bounded → (st.evaluated z r).Bounded)
      ∧ (st.LensJudged → (st.evaluated z r).LensJudged) := by
  unfold Stream.evaluated
  cases gateOf z r.luma r.pix with
  | opened =>
    refine ⟨rfl, rfl, fun sums h => ⟨fun t => ?_, h.2⟩, fun h few => ?_⟩
    · simp only [evaluateTiles, tabulate_get]
      split
      · exact h.1 t
      · exact Tile.evaluate_bounded z (h.1 t) (sums t)
    · have more : countTiles st.cfg st.tiles Tile.past
          ≤ countTiles st.cfg (evaluateTiles z st.cfg r st.tiles) Tile.past := by
        refine countTiles_mono fun t ht => ?_
        simp only [evaluateTiles, tabulate_get]
        split
        · exact ht
        · exact Tile.evaluate_past z _ _ ht
      exact (Lens.judge_state_of_few z st.lens _ few).trans (h (Nat.lt_of_le_of_lt more few))
  | _ => exact ⟨rfl, rfl, fun _ h => h, fun h => h⟩

/-! ### The Slot Pool (R47) -/

namespace SlotPool

variable {p : SlotPool}

theorem handBack_exact (h : p.FreeListExact) (n : Nat) : (p.handBack n).FreeListExact := p.update_exact h n _

theorem pinAll_exact (h : p.FreeListExact) (l : List Nat) : (p.pinAll l).FreeListExact :=
  SlotPool.foldl_exact l SlotPool.pin (fun p n hp => p.update_exact hp n _) p h

theorem unpinAll_exact (h : p.FreeListExact) (l : List Nat) : (p.unpinAll l).FreeListExact :=
  SlotPool.foldl_exact l SlotPool.unpin (fun p n hp => p.update_exact hp n _) p h

theorem holdAll_exact (h : p.FreeListExact) (g : Nat) (l : List Nat) : (p.holdAll g l).FreeListExact :=
  SlotPool.foldl_exact l (fun p n => p.holdFor g n) (fun p n hp => p.update_exact hp n _) p h

theorem unholdAll_exact (h : p.FreeListExact) (l : List Nat) : (p.unholdAll l).FreeListExact :=
  SlotPool.foldl_exact l SlotPool.unhold (fun p n hp => p.update_exact hp n _) p h

theorem allocate_exact (h : p.FreeListExact) {i : Fin 16} {n : Nat} {p' : SlotPool} (found : p.allocate i = some (n, p')) :
    p'.FreeListExact := by
  unfold allocate at found
  cases first : p.free.find? (p.owns i) with
  | none => simp [first] at found
  | some m =>
    simp only [first, Option.some.injEq, Prod.mk.injEq] at found
    obtain ⟨-, rfl⟩ := found
    exact (p.update m _).content_exact (p.update_exact h m _) _

theorem acceptFrame_exact (h : p.FreeListExact) (i : Fin 16) (f : Filling) (now : Time) :
    (p.acceptFrame i f now).FreeListExact := by
  unfold acceptFrame
  dsimp only
  have placed := (p.update f.slot (fun x => x.accept f now)).content_exact (p.update_exact h _ _)
    (modAt (p.update f.slot (fun x => x.accept f now)).content i (fun l => f.slot :: l.erase f.slot))
  split
  · exact placed
  · exact update_exact _ placed _ _

/-- A pool whose every slot is available has every number in its free list. -/
theorem exact_of_all_available (all : ∀ (n : Nat) (x : Slot), p.slots[n]? = some x → x.available = true)
    (free : p.free = List.range p.slots.length) : p.FreeListExact := by
  refine ⟨free ▸ List.nodup_range, fun n => ?_⟩
  rw [free, List.mem_range]
  constructor
  · intro h
    exact ⟨p.slots[n], List.getElem?_eq_getElem h, (Slot.available_iff _).1 (all n _ (List.getElem?_eq_getElem h))⟩
  · rintro ⟨x, hx, -⟩
    exact (List.getElem?_eq_some_iff.1 hx).1

theorem emptied_exact (p : SlotPool) : p.emptied.FreeListExact := by
  refine exact_of_all_available (fun n x hx => ?_) (by simp [emptied, allNumbers])
  obtain ⟨y, -, rfl⟩ : ∃ y, p.slots[n]? = some y ∧ y.emptied = x := by simpa [emptied] using hx
  rfl

theorem committed_exact (p : SlotPool) (streams : Vector Stream 16) : (p.committed streams).FreeListExact := by
  refine exact_of_all_available (fun n x hx => ?_) (by simp [committed, allNumbers])
  simp only [committed, List.getElem?_map, Option.map_eq_some_iff] at hx
  obtain ⟨y, -, rfl⟩ := hx
  rfl

end SlotPool

/-! ### The Hold Table (R148, R149) -/

namespace HoldTable

variable {t : HoldTable}

/-- What becomes of the groups: some leave, the ids stay, no group gains slots. -/
theorem bounded_of_fewer {t' : HoldTable} (f : Group → Group) (keep : Group → Bool)
    (groups : t'.groups = (t.groups.map f).filter keep) (id : ∀ g, (f g).id = g.id)
    (slots : ∀ g, (f g).slots.length ≤ g.slots.length) (h : t.Bounded) : t'.Bounded := by
  obtain ⟨total, ids, nodup⟩ := h
  refine ⟨Nat.le_trans ?_ total, fun g hg => ?_, ?_⟩
  · unfold HoldTable.total
    rw [groups]
    calc (((t.groups.map f).filter keep).map fun g => g.slots.length).sum
        ≤ ((t.groups.map f).map fun g => g.slots.length).sum :=
          (List.filter_sublist.map _).sum_le_sum fun _ _ => Nat.zero_le _
      _ ≤ (t.groups.map fun g => g.slots.length).sum := by
          rw [List.map_map]
          exact List.sum_le_sum fun g _ => slots g
  · rw [groups] at hg
    obtain ⟨g', hg', rfl⟩ := List.mem_map.1 (List.mem_of_mem_filter hg)
    rw [id]
    exact ids g' hg'
  · rw [groups]
    refine List.Nodup.sublist (List.filter_sublist.map _) ?_
    rwa [List.map_map, show Group.id ∘ f = Group.id from funext id]

theorem bounded_of_none {t' : HoldTable} (groups : t'.groups = []) : t'.Bounded := by
  simp [Bounded, total, groups]

/-- A new group takes a free id and as many slots as fit (R150). -/
theorem bounded_of_made {t' : HoldTable} {g : Group} (groups : t'.groups = t.groups ++ [g]) (low : 1 ≤ g.id) (high : g.id ≤ 8)
    (apart : ∀ x ∈ t.groups, x.id ≠ g.id) (fits : g.slots.length + t.total ≤ 8) (h : t.Bounded) : t'.Bounded := by
  obtain ⟨-, ids, nodup⟩ := h
  refine ⟨?_, fun x hx => ?_, ?_⟩
  · unfold HoldTable.total at fits ⊢
    rw [groups, List.map_append, List.sum_append]
    simp only [List.map_cons, List.map_nil, List.sum_cons, List.sum_nil]
    omega
  · rw [groups] at hx
    obtain old | rfl : x ∈ t.groups ∨ x = g := by simpa using hx
    · exact ids x old
    · exact ⟨low, high⟩
  · rw [groups, List.map_append, List.nodup_append]
    refine ⟨nodup, by simp, ?_⟩
    rintro a ha b hb rfl
    obtain ⟨x, hx, rfl⟩ := List.mem_map.1 ha
    exact apart x hx (by simpa using hb)

end HoldTable

/-- One group is changed and keeps its id: the ids stay. -/
theorem modFirstGroup_ids (p : Group → Bool) (f : Group → Group) (id : ∀ g, (f g).id = g.id) (l : List Group) :
    (modFirstGroup p f l).map Group.id = l.map Group.id := by
  induction l with
  | nil => rfl
  | cons g gs ih =>
    unfold modFirstGroup
    split
    · simp [id]
    · simp [ih]

/-- A group that takes a post frame gains one slot, and no other group does. -/
theorem modFirstGroup_total (i : Fin 16) (n : Nat) (l : List Group) :
    ((modFirstGroup (Group.waits i) (fun g => g.takePost n) l).map fun g => g.slots.length).sum
      ≤ (l.map fun g => g.slots.length).sum + 1 := by
  induction l with
  | nil => simp [modFirstGroup]
  | cons g gs ih =>
    unfold modFirstGroup
    split
    · simp [Group.takePost]; omega
    · simp only [List.map_cons, List.sum_cons]; omega

theorem HoldTable.bounded_of_post {t t' : HoldTable} (i : Fin 16) (n : Nat)
    (groups : t'.groups = modFirstGroup (Group.waits i) (fun g => g.takePost n) t.groups) (room : t.total < 8)
    (h : t.Bounded) : t'.Bounded := by
  obtain ⟨-, ids, nodup⟩ := h
  have same := modFirstGroup_ids (Group.waits i) (fun g => g.takePost n) (fun _ => rfl) t.groups
  refine ⟨?_, fun g hg => ?_, by rwa [groups, same]⟩
  · have := modFirstGroup_total i n t.groups
    unfold HoldTable.total at room ⊢
    rw [groups]
    omega
  · have mem : g.id ∈ t.groups.map Group.id := by
      rw [← same, ← groups]
      exact List.mem_map_of_mem hg
    obtain ⟨x, hx, e⟩ := List.mem_map.1 mem
    exact e ▸ ids x hx

/-! ### The Evaluation Engine (R71, R73, R79) -/

namespace Evaluator

variable {e : Evaluator}

/-- The records of the queue and the one in evaluation are those that were queued or in evaluation. -/
theorem begin_bounded (h : e.Bounded) : e.begin.Bounded := by
  obtain ⟨queue, current⟩ := h
  unfold Evaluator.begin
  split
  · rename_i r rs _ hq
    rw [hq] at queue
    exact ⟨fun x hx => queue x (by simp [hx]), by rintro x ⟨⟩; exact queue r (by simp)⟩
  · exact ⟨queue, current⟩

/-- An engine that may begin holds a queue only while it evaluates. -/
theorem begin_queued (h : e.queue.length ≤ 4) : e.begin.queue.length ≤ 4 := by
  unfold Evaluator.begin
  split
  · rename_i r rs _ hq
    simp [hq] at h
    simp only
    omega
  · exact h

theorem queued_of_current {x : InEvaluation} (current : e.current = some x) (h : e.queue.length ≤ 4) : e.Queued :=
  ⟨h, by simp [current]⟩

end Evaluator

end Sys2Proof.Machine
end

section
/-! PROOFS. What every step keeps, the operations of the Capture Tracker, the Evaluation Engine, the dump engine and the
Hold Table: each is a chain of updates that keep every property. -/

namespace Sys2Proof.Machine

/-- A timer started now stands ahead by its length at most. -/
theorem laterBy_ahead (now : Time) {n limit : Nat} (h : n ≤ limit) : (laterBy now n - now).toNat ≤ limit := by
  have : laterBy now n - now = BitVec.ofNat 32 n := by unfold laterBy; exact add_sub_cancel_left now _
  rw [this, BitVec.toNat_ofNat]
  exact Nat.le_trans (Nat.mod_le _ _) h

/-! ### Writes of the Transit Path -/

theorem State.modWrite_keeps (s : State) (key : Nat) (f : WriteTxn → WriteTxn) :
    KeepsAll s (s.modTransit (fun t => t.modWrite key f)) :=
  s.modTransit_keeps _ rfl rfl rfl rfl rfl (by simp [Transit.modWrite])

theorem State.modRead_keeps (s : State) (key : Nat) (f : ReadTxn → ReadTxn) :
    KeepsAll s (s.modTransit (fun t => t.modRead key f)) :=
  s.modTransit_keeps _ rfl rfl rfl rfl (by simp [Transit.modRead]) rfl

theorem State.absorb_keeps (s : State) (key : Nat) : KeepsAll s (s.absorb key) := s.modWrite_keeps key _

theorem State.absorbOrphan_keeps (s : State) (i : Fin 16) (key : Nat) : KeepsAll s (s.absorbOrphan i key) :=
  (s.absorb_keeps key).trans (State.modCapture_keeps _ i _ rfl rfl)

/-! ### Frames (R24 to R34) -/

theorem State.frameLost_keeps (s : State) (i : Fin 16) (cause : Nat) : KeepsAll s (s.frameLost i cause) :=
  (s.notify_keeps _ _ _).trans (State.modCapture_keeps _ i _ rfl rfl)

theorem State.abandonFrame_keeps (s : State) (i : Fin 16) (f : Filling) : KeepsAll s (s.abandonFrame i f) :=
  ((s.modPool_keeps _ fun h => SlotPool.handBack_exact h _).trans
    (State.modAcc_keeps _ i (fun a => a.dropTo .idle) fun _ => Accumulators.dropTo_bounded _ _)).trans
    (State.modCapture_keeps _ i _ rfl rfl)

theorem State.steer_keeps (s : State) (i : Fin 16) (f : Filling) (w : CaptureWrite) : KeepsAll s (s.steer i f w) := by
  unfold State.steer
  extract_lets s1 s2
  have formed : KeepsAll s s1 := s.modTransit_keeps _ rfl rfl rfl rfl rfl (by simp [Transit.modWrite, Transit.form])
  have filled : KeepsAll s1 s2 := s1.modStream_keeps i _ {
    bounded := fun ⟨tiles, acc⟩ => ⟨tiles, Accumulators.afterWrite_bounded acc f w⟩ }
  split
  · exact (formed.trans filled).trans (s2.notify_keeps _ _ _)
  · exact formed.trans filled

theorem State.frameStart_keeps (s : State) (i : Fin 16) (w : CaptureWrite) : KeepsAll s (s.frameStart i w) := by
  unfold State.frameStart
  extract_lets cfg s1
  have cleared : KeepsAll s s1 := s.modAcc_keeps i _ fun _ => Accumulators.start_bounded _ _ _
  split
  · exact (cleared.trans (s1.absorb_keeps _)).trans (State.frameLost_keeps _ i 1)
  · rename_i n p found
    have taken : KeepsAll s1 (s1.modPool fun _ => p) := s1.modPool_keeps _ fun h => SlotPool.allocate_exact h found
    exact ((cleared.trans taken).trans (State.modAcc_keeps _ i _ id)).trans (State.steer_keeps _ i _ w)

theorem State.takeWrite_keeps (s : State) (i : Fin 16) (w : CaptureWrite) : KeepsAll s (s.takeWrite i w) := by
  unfold State.takeWrite
  dsimp only
  split
  · exact s.absorbOrphan_keeps i _
  · split
    · split
      · exact s.frameStart_keeps i w
      · exact s.absorbOrphan_keeps i _
    · rename_i f _
      split
      · exact ((s.abandonFrame_keeps i f).trans (State.frameLost_keeps _ i 2)).trans (State.frameStart_keeps _ i w)
      · split
        · exact s.absorbOrphan_keeps i _
        · exact s.steer_keeps i f w

theorem State.handWrite_keeps (s : State) (i : Fin 16) (w : CaptureWrite) : KeepsAll s (s.handWrite i w) := by
  unfold State.handWrite
  dsimp only
  split
  · exact (s.modWrite_keeps _ _).trans (State.modCapture_keeps _ i _ rfl rfl)
  · exact s.takeWrite_keeps i w

theorem State.takeHeld_keeps (i : Fin 16) (l : List CaptureWrite) (s : State) : KeepsAll s (State.takeHeld i l s) := by
  induction l generalizing s with
  | nil => exact .refl s
  | cons w ws ih =>
    unfold State.takeHeld
    split
    · exact s.modCapture_keeps i _ rfl rfl
    · exact (s.takeWrite_keeps i w).trans (ih _)

/-! ### The Evaluation Engine (R70 to R80, R91, R92) -/

/-- A record is queued at fewer than 4, and begun at once by an idle engine. -/
theorem State.offerRecord_keeps (s : State) (r : FrameRecord) (sums : s.EnergiesBounded → r.EdgesBounded) :
    KeepsAll s (s.offerRecord r) := by
  unfold State.offerRecord
  split
  · rename_i room
    exact {
      queue := by
        rintro ⟨-, idle⟩
        cases current : s.evals.current with
        | some x => simpa [State.EvaluationQueued, Evaluator.begin, current] using room
        | none => simp [State.EvaluationQueued, Evaluator.begin, current, idle current]
      energies := fun all => by
        obtain ⟨streams, queue, current⟩ := s.energiesBounded_iff.1 all
        refine (State.energiesBounded_iff _).2 ⟨streams, Evaluator.begin_bounded ⟨fun x hx => ?_, current⟩⟩
        obtain old | rfl : x ∈ s.evals.queue ∨ x = r := by simpa using hx
        · exact queue x old
        · exact sums all }
  · exact (s.modAcc_keeps _ _ id).trans (State.notify_keeps _ _ _ _)

theorem State.offerStatistics_keeps (s : State) (i : Fin 16) (q : Seq) : KeepsAll s (s.offerStatistics i q) := by
  unfold State.offerStatistics
  dsimp only
  split
  · refine (s.modAcc_keeps i _ id).trans (State.offerRecord_keeps _ _ fun all => ?_)
    have acc := (((State.energiesBounded_iff _).1 all).1 i).2
    rw [State.modAcc_stream, if_pos rfl] at acc
    exact Accumulators.frameRecord_bounded (a := (s.stream i).acc) acc i q
  · exact s.modAcc_keeps i _ id

theorem State.applyEvaluation_keeps (s : State) (r : FrameRecord) (sums : s.EnergiesBounded → r.EdgesBounded) :
    KeepsAll s (s.applyEvaluation r) := by
  unfold State.applyEvaluation
  extract_lets st st' s'
  obtain ⟨cfg, cap, bounded, judged⟩ := st.evaluated_keeps s.evals.soiling r
  have applied : KeepsAll s s' := s.modStream_keeps_of_bounded r.stream _ (by rw [cap]; exact id)
    (fun all => bounded (sums all) ((s.energiesBounded_iff.1 all).1 r.stream)) judged
    (by simp only [Stream.Ahead, st', cfg, cap]; exact id)
  split
  · exact applied
  · exact applied.trans (s'.notify_keeps _ _ _)

/-! ### The dump engine (R182) -/

theorem State.dumpSnapshot_keeps (s : State) (d : Dump) : KeepsAll s (s.dumpSnapshot d) :=
  (s.modTransit_keeps (fun _ => (s.dumpSnapshot d).transit) rfl rfl rfl rfl rfl rfl).trans
    (State.modPort_keeps _ (fun _ => (s.dumpSnapshot d).port) rfl)

theorem State.dumpBegin_keeps (s : State) (d : Dump) : KeepsAll s (s.dumpBegin d) := by
  unfold State.dumpBegin
  split
  · exact s.modPort_keeps _ rfl
  · exact s.dumpSnapshot_keeps d

theorem State.dumpResume_keeps (s : State) (i : Fin 16) : KeepsAll s (s.dumpResume i) := by
  unfold State.dumpResume
  split
  · exact .refl s
  · split
    · exact s.dumpSnapshot_keeps _
    · exact .refl s

theorem State.dumpProceed_keeps (s : State) (d : Dump) : KeepsAll s (s.dumpProceed d) := by
  have ended (k : Kind) (subject value : Nat) :
      KeepsAll s ((s.modPort (fun p => { p with dump := none })).notify k subject value) :=
    (s.modPort_keeps _ rfl).trans (State.notify_keeps _ k subject value)
  unfold State.dumpProceed
  split
  · exact ended _ _ _
  · split
    · exact ended _ _ _
    · split
      · exact s.dumpBegin_keeps _
      · exact ended _ _ _

theorem State.dumpAnswered_keeps (s : State) (resp : Resp) : KeepsAll s (s.dumpAnswered resp) := by
  unfold State.dumpAnswered
  split
  · exact .refl s
  · dsimp only
    split
    · exact (s.modPort_keeps _ rfl).trans (State.dumpProceed_keeps _ _)
    · exact s.modPort_keeps _ rfl

/-- A waiting dump takes its snapshot whatever becomes of the engine. -/
theorem State.modEvals_dumpResume (s : State) (f : Evaluator → Evaluator) (i : Fin 16) :
    (s.modEvals f).dumpResume i = (s.dumpResume i).modEvals f := by
  unfold State.dumpResume
  simp only [State.modEvals_port]
  split
  · rfl
  · split <;> rfl

theorem State.dumpResume_evals (s : State) (i : Fin 16) : (s.dumpResume i).evals = s.evals := by
  unfold State.dumpResume
  split
  · rfl
  · split <;> rfl

/-- An evaluation completes: the engine goes on to the next record, or is idle with none left. -/
theorem State.completeEvaluation_keeps (s : State) : KeepsAll s s.completeEvaluation := by
  unfold State.completeEvaluation
  split
  · exact .refl s
  · rename_i x current
    extract_lets s1 s2
    have applied : KeepsAll s s1 := by
      unfold s1
      split
      · exact .refl s
      · exact s.applyEvaluation_keeps _ fun all => (s.energiesBounded_iff.1 all).2.2 x current
    have next : KeepsAll s1 ((s1.dumpResume x.frame.stream).modEvals (fun e => ({ e with current := none } : Evaluator).begin)) := by
      refine (s1.dumpResume_keeps _).trans (State.modEvals_keeps _ _ ?_ ?_)
      · rintro ⟨len, -⟩
        generalize (s1.dumpResume x.frame.stream).evals = e at len
        cases queue : e.queue with
        | nil => simp [Evaluator.Queued, Evaluator.begin]
        | cons r rs =>
          rw [queue] at len
          simp only [List.length_cons] at len
          simp only [Evaluator.Queued, Evaluator.begin]
          exact ⟨by omega, by simp⟩
      · rintro ⟨queue, -⟩
        exact Evaluator.begin_bounded ⟨queue, by simp⟩
    have same : (s2.dumpResume x.frame.stream).modEvals Evaluator.begin
        = (s1.dumpResume x.frame.stream).modEvals (fun e => ({ e with current := none } : Evaluator).begin) := by
      unfold s2
      rw [State.modEvals_dumpResume]
      rfl
    rw [same]
    exact applied.trans next

theorem State.resetBaselineOf_keeps (s : State) (i : Fin 16) : KeepsAll s (s.resetBaselineOf i) := by
  unfold State.resetBaselineOf
  extract_lets s1
  have forgotten : KeepsAll s s1 := by
    refine (s.modStream_keeps i Stream.relearned { bounded := ?_, judged := fun _ _ => rfl }).trans
      (State.modEvals_keeps _ _ ?_ ?_)
    · exact fun h => ⟨fun t => by simp [Stream.relearned, Tile.Bounded, Tile.reset], h.2⟩
    · exact fun ⟨len, idle⟩ => ⟨len, fun none => idle (by simpa [Evaluator.markDiscard] using none)⟩
    · rintro ⟨queue, current⟩
      refine ⟨queue, fun x hx => ?_⟩
      obtain ⟨y, hy, rfl⟩ : ∃ y, s.evals.current = some y ∧ (if y.frame.stream = i then { y with discard := true } else y) = x := by
        simpa [Evaluator.markDiscard] using hx
      have := current y hy
      split <;> exact this
  split
  · exact forgotten
  · exact forgotten.trans (s1.notify_keeps _ _ _)

/-- A new configuration part, its age limit in range; a lens that it leaves too few learned tiles is LEARNING (R91). -/
theorem State.writeStream_keeps (s : State) (i : Fin 16) (c : StreamConfig) (age : c.ageLimit ≤ 2000) :
    KeepsAll s (s.writeStream i c) := by
  have ahead (lens : Lens) : (s.stream i).Ahead s.time → ({ s.stream i with cfg := c, lens := lens } : Stream).Ahead s.time :=
    fun h => ⟨age, h.2⟩
  have written (judged : (s.stream i).LensJudged → ({ s.stream i with cfg := c } : Stream).LensJudged) :
      KeepsAll s (s.modStream i (fun st => { st with cfg := c })) :=
    s.modStream_keeps i _ { judged := judged, ahead := ahead _ }
  unfold State.writeStream
  extract_lets old s1
  split
  · have new : s1.stream i = { s.stream i with cfg := c } := by simp [s1, State.modStream_stream]
    unfold State.relearnLens
    dsimp only
    rw [new]
    split
    · have both : s1.modStream i (fun st => { st with lens := { st.lens with state := .learning } })
          = s.modStream i (fun st => { st with cfg := c, lens := { st.lens with state := .learning } }) := by
        simp [s1, State.modStream, modAt_modAt]
      rw [both]
      exact (s.modStream_keeps i _ { judged := fun _ _ => rfl, ahead := ahead _ }).trans (State.notify_keeps _ _ _ _)
    · rename_i enough
      refine written fun _ few => ?_
      by_contra judged
      exact enough ⟨few, judged⟩
  · rename_i same
    obtain ⟨rows, cols⟩ : old.exRows = c.exRows ∧ old.exCols = c.exCols := by simpa [not_or] using same
    refine written fun h few => h ?_
    rwa [countTiles_congr rows.symm cols.symm] at few

/-! ### The Hold Table (R150 to R162) -/

theorem State.makeHold_keeps (s : State) (cause : Cause) (i : Fin 16) (pre post : Nat) :
    KeepsAll s (s.makeHold cause i pre post) := by
  unfold State.makeHold
  split
  · exact s.notify_keeps _ _ _
  · rename_i id h decided
    obtain ⟨free, -, -, len, fits, -⟩ := s.decideHold_made i pre id h decided
    obtain ⟨low, high, apart⟩ := s.holds.freeId_spec id free
    extract_lets taken s1 s2
    have held : KeepsAll s s1 := (s.modPool_keeps _ fun hp => SlotPool.holdAll_exact hp id taken).trans
      (State.modHolds_keeps _ _ (HoldTable.bounded_of_made rfl low high apart (by simp [taken]; omega)))
    have told : KeepsAll s s2 := held.trans (s1.notify_keeps _ _ _)
    split
    · exact told.trans (s2.notify_keeps _ _ _)
    · exact told

theorem State.postFrame_keeps (s : State) (i : Fin 16) (n : Nat) : KeepsAll s (s.postFrame i n) := by
  unfold State.postFrame
  split
  · exact .refl s
  · rename_i g found
    split
    · rename_i room
      exact (s.modPool_keeps _ fun h => SlotPool.update_exact _ h _ _).trans
        (State.modHolds_keeps _ _ (HoldTable.bounded_of_post i n rfl room.1))
    · refine (s.modHolds_keeps _ (HoldTable.bounded_of_fewer (fun g => if g.waits i then { g with post := 0 } else g)
        (fun _ => true) (by simp) (fun g => ?_) fun g => ?_)).trans
        (KeepsAll.foldl (fun s g _ => s.notify_keeps _ _ _) _)
      · split <;> rfl
      · split <;> exact Nat.le_refl _

theorem State.releaseGroup_keeps (s : State) (g : Group) : KeepsAll s (s.releaseGroup g) := by
  unfold State.releaseGroup
  exact ((s.modPool_keeps _ fun h => SlotPool.unholdAll_exact h _).trans (State.modHolds_keeps _ _
    (HoldTable.bounded_of_fewer id (fun x => !decide (x.id = g.id)) (by simp) (fun _ => rfl) fun _ => Nat.le_refl _))).trans
    (State.notify_keeps _ _ _ _)

theorem State.autoReleaseMapped_keeps (s : State) (m : Mapping) : KeepsAll s (s.autoReleaseMapped m) := by
  unfold State.autoReleaseMapped
  refine ((s.modPool_keeps _ fun h => SlotPool.update_exact _ h _ _).trans (State.modHolds_keeps _ _
    (HoldTable.bounded_of_fewer _ _ rfl (fun g => ?_) fun g => ?_))).trans (State.notify_keeps _ _ _ _)
  · split <;> rfl
  · split
    · exact List.length_erase_le
    · exact Nat.le_refl _

theorem State.discardGroups_keeps (s : State) : KeepsAll s s.discardGroups := by
  unfold State.discardGroups
  exact (KeepsAll.foldl (fun s g _ => s.notify_keeps _ _ _) s).trans
    (State.modHolds_keeps _ _ fun _ => HoldTable.bounded_of_none rfl)

/-! ### Completion of a frame (R33 to R39) -/

theorem State.checkSequence_keeps (s : State) (i : Fin 16) (q : Seq) : KeepsAll s (s.checkSequence i q) := by
  unfold State.checkSequence
  extract_lets s1
  have checked : KeepsAll s s1 := by
    unfold s1
    split
    · exact .refl s
    · dsimp only
      split
      · exact .refl s
      · split
        · exact (s.modCapture_keeps i _ rfl rfl).trans (State.notify_keeps _ _ _ _)
        · exact s.notify_keeps _ _ _
  exact checked.trans (State.modCapture_keeps _ i _ rfl rfl)

theorem State.refresh_keeps (s : State) (i : Fin 16) (q : Seq) : KeepsAll s (s.refresh i q) := by
  unfold State.refresh
  extract_lets st s1
  have live : KeepsAll s s1 := s.modStream_keeps i _ {
    timed := fun _ => by simp [Capture.Timed]
    ahead := by
      rintro ⟨age, -⟩
      refine ⟨age, fun e he => ?_⟩
      obtain rfl := Option.some.inj he
      exact laterBy_ahead _ age }
  split
  · exact live
  · exact live.trans (s1.notify_keeps _ _ _)

theorem State.acceptFrame_keeps (s : State) (i : Fin 16) (f : Filling) : KeepsAll s (s.acceptFrame i f) := by
  unfold State.acceptFrame
  extract_lets s1 s2
  have taken : KeepsAll s s1 := s.modPool_keeps _ fun h => SlotPool.acceptFrame_exact h i f _
  have judged : KeepsAll s1 s2 := ((s1.checkSequence_keeps i f.sequence).trans (State.refresh_keeps _ i f.sequence)).trans
    (State.offerStatistics_keeps _ i f.sequence)
  have told : KeepsAll s2 (s2.postFrame i f.slot) := s2.postFrame_keeps i f.slot
  have ended (t : State) : KeepsAll t (t.modCapture i (fun c => { c with fill := none })) :=
    t.modCapture_keeps i _ rfl rfl
  exact ((taken.trans judged).trans told).trans (ended _)

theorem State.completeFrame_keeps (s : State) (i : Fin 16) (f : Filling) : KeepsAll s (s.completeFrame i f) := by
  unfold State.completeFrame
  split
  · exact (s.abandonFrame_keeps i f).trans (State.frameLost_keeps _ i 3)
  · split
    · exact (s.abandonFrame_keeps i f).trans (State.frameLost_keeps _ i 4)
    · exact s.acceptFrame_keeps i f

theorem State.settle_keeps (s : State) (i : Fin 16) : KeepsAll s (s.settle i) := by
  unfold State.settle
  dsimp only
  split
  · exact (s.modPool_keeps _ fun h => SlotPool.handBack_exact h _).trans (State.modCapture_keeps _ i _ rfl rfl)
  · refine KeepsAll.trans ?_ (State.takeHeld_keeps i _ _)
    have emptied := s.modCapture_keeps i (fun c => { c with heldWrites := [] }) rfl rfl
    split
    · exact emptied
    · split
      · exact emptied.trans (State.completeFrame_keeps _ i _)
      · exact emptied

/-- A damaged mark moves no freshness. -/
theorem Capture.damage_frame (c : Capture) : c.damage.freshness = c.freshness ∧ c.damage.timer = c.timer := by
  unfold Capture.damage
  split <;> exact ⟨rfl, rfl⟩

theorem State.steeredAnswered_keeps (s : State) (i : Fin 16) (key : Nat) (resp : Resp) :
    KeepsAll s (s.steeredAnswered i key resp) := by
  unfold State.steeredAnswered
  extract_lets s1 s2
  have lowered : KeepsAll s s2 := by
    refine (s.modWrite_keeps key _).trans (State.modCapture_keeps _ i _ ?_ ?_)
    · simp only []
      split
      · exact (Capture.damage_frame _).1
      · rfl
    · simp only []
      split
      · exact (Capture.damage_frame _).2
      · rfl
  split
  · exact lowered.trans (s2.settle_keeps i)
  · exact lowered

theorem State.stopCapture_keeps (s : State) (i : Fin 16) : KeepsAll s (s.stopCapture i) := by
  unfold State.stopCapture
  extract_lets c s1 s2
  have stopped : KeepsAll s s1 := by
    unfold s1
    split
    · exact .refl s
    · split
      · exact s.abandonFrame_keeps i _
      · exact (s.modAcc_keeps i (fun a => a.dropTo .idle) fun _ => Accumulators.dropTo_bounded _ _).trans
          (State.modCapture_keeps _ i _ rfl rfl)
  have absorbed : KeepsAll s1 s2 := KeepsAll.foldl (fun s w _ => s.absorbOrphan_keeps i _) s1
  refine ((stopped.trans absorbed).trans (s2.modStream_keeps i _ ?_)).trans (State.modEvals_keeps _ _ ?_ ?_)
  · exact { timed := fun _ => by simp [Capture.Timed], ahead := fun h => ⟨h.1, by simp⟩ }
  · exact fun ⟨len, idle⟩ => ⟨Nat.le_trans (List.length_filter_le _ _) len, fun none => by
      simp only [Evaluator.remove]; rw [idle none]; rfl⟩
  · exact fun ⟨queue, current⟩ => ⟨fun r hr => queue r (List.mem_of_mem_filter hr), current⟩

end Sys2Proof.Machine
end

section
/-! PROOFS. What every step keeps, the operations of the Line Monitor and the Composition Engine, and the expiries with
the millisecond that takes them. -/

namespace Sys2Proof.Machine

/-! ### The hidden flag (R140, R141) -/

/-- New lines whose flag is recomputed: the flag is exact, whatever the lines were. -/
theorem State.relines_keeps (s : State) (f : LineMonitor → LineMonitor)
    (ahead : s.lines.Ahead s.time → (f s.lines).Ahead s.time) : KeepsAll s (s.modLines f).recomputeHidden := by
  have exact_ : KeepsAll s (s.modLines fun m => { f m with hidden := (f m).reverseIsHidden }) :=
    s.modLines_keeps _ (fun _ => rfl) ahead
  unfold State.recomputeHidden
  dsimp only
  split
  · exact exact_.trans (State.notify_keeps _ _ _ _)
  · exact exact_

/-- Whether the reverse view is hidden depends on the doors, CAB_B and REVERSE, not on OBSTRUCT. -/
theorem LineMonitor.reverseIsHidden_congr {m m' : LineMonitor}
    (lines : ∀ l : Fin 15, l ≠ 14 → m'.lines[l].debounced = m.lines[l].debounced) (sides : m'.sides = m.sides)
    (doorEnable : m'.doorEnable = m.doorEnable) (reverseEnable : m'.reverseEnable = m.reverseEnable)
    (preferred : m'.preferred = m.preferred) : m'.reverseIsHidden = m.reverseIsHidden := by
  have doors : m'.doorOpen = m.doorOpen := by
    funext d
    refine lines (doorLine d) fun h => ?_
    have := congrArg Fin.val h
    simp only [doorLine] at this
    omega
  have cab : m'.cabB = m.cabB := lines 12 (by decide)
  have reversing : m'.reversing = m.reversing := lines 13 (by decide)
  have view (c : Fin 2) : m'.doorViewActive c = m.doorViewActive c := by
    simp only [doorViewActive, shownSide, sideOpen, openDoors, cab, doors, sides, doorEnable]
    rfl
  unfold reverseIsHidden reversePlacement reverseActive
  rw [reversing, reverseEnable, preferred, view, view]

theorem LineMonitor.ahead_modSide {m : LineMonitor} {now : Time} (x : Fin 2) (f : Side → Side)
    (hf : m.sides[x].Ahead now → (f m.sides[x]).Ahead now) (h : m.Ahead now) :
    ({ m with sides := modAt m.sides x f } : LineMonitor).Ahead now := by
  refine ⟨h.1, fun y => ?_⟩
  simp only [modAt_get]
  by_cases e : x = y
  · subst e; rw [if_pos rfl]; exact hf (h.2 x)
  · rw [if_neg e]; exact h.2 y

/-! ### DOOR_BLIND (R144) -/

theorem State.sendBlind_keeps (s : State) (door code : Nat) : KeepsAll s (s.sendBlind door code) := by
  unfold State.sendBlind
  split
  · exact s.notify_keeps _ _ _
  · exact .refl s

theorem State.testBlind_keeps (s : State) (d : Nat) : KeepsAll s (s.testBlind d) := by
  unfold State.testBlind
  split
  · exact s.sendBlind_keeps d 1
  · split
    · exact s.sendBlind_keeps d 2
    · split
      · exact s.sendBlind_keeps d 3
      · exact s.sendBlind_keeps d 4
      · exact .refl s

theorem State.blindStream_keeps (s : State) (i : Fin 16) (code : Nat) : KeepsAll s (s.blindStream i code) := by
  unfold State.blindStream
  split
  · exact .refl s
  · split
    · exact s.sendBlind_keeps _ code
    · exact .refl s

theorem State.sendBlind_modLines (s : State) (f : LineMonitor → LineMonitor) (door code : Nat) :
    (s.modLines f).sendBlind door code = (s.sendBlind door code).modLines f := by
  unfold State.sendBlind
  rw [show (s.modLines f).isLive = s.isLive from rfl]
  split <;> rfl

/-- The test at the opening of a door reads nothing of the Line Monitor. -/
theorem State.testBlind_modLines (s : State) (f : LineMonitor → LineMonitor) (d : Nat) :
    (s.modLines f).testBlind d = (s.testBlind d).modLines f := by
  unfold State.testBlind
  simp only [State.modLines_streams, State.modLines_stream, State.sendBlind_modLines]
  split
  · rfl
  · split
    · rfl
    · split <;> rfl

theorem State.sendBlind_frame (s : State) (door code : Nat) : ∃ notices, s.sendBlind door code = { s with notices } := by
  unfold State.sendBlind
  split <;> exact ⟨_, rfl⟩

theorem State.testBlind_frame (s : State) (d : Nat) : ∃ notices, s.testBlind d = { s with notices } := by
  unfold State.testBlind
  split
  · exact s.sendBlind_frame d 1
  · split
    · exact s.sendBlind_frame d 2
    · split
      · exact s.sendBlind_frame d 3
      · exact s.sendBlind_frame d 4
      · exact ⟨_, rfl⟩

theorem State.blindStream_frame (s : State) (i : Fin 16) (code : Nat) :
    ∃ notices, s.blindStream i code = { s with notices } := by
  unfold State.blindStream
  split
  · exact ⟨_, rfl⟩
  · split
    · exact s.sendBlind_frame _ code
    · exact ⟨_, rfl⟩

/-! ### Debounced changes (R129, R130, R145) -/

section Change
variable (s : State) (g : LineMonitor → LineMonitor)
  (ahead : ∀ now, s.lines.Ahead now → (g s.lines).Ahead now)
include ahead

/-- A door has opened in lines that keep the timers ahead. -/
theorem State.doorOpens_keeps (d : Fin 12) : KeepsAll s ((s.modLines g).doorOpens d) := by
  have moved : ((s.modLines g).modSide (sideOf d) (fun x => x.opened d.val)).testBlind d.val
      = (s.testBlind d.val).modLines
        (fun m => { g m with sides := modAt (g m).sides (sideOf d) (fun x => x.opened d.val) }) :=
    s.testBlind_modLines (fun m => { g m with sides := modAt (g m).sides (sideOf d) (fun x => x.opened d.val) }) d.val
  unfold State.doorOpens
  rw [moved]
  refine (s.testBlind_keeps d.val).trans (State.relines_keeps _ _ ?_)
  obtain ⟨notices, same⟩ := s.testBlind_frame d.val
  rw [same]
  exact fun h => LineMonitor.ahead_modSide _ _ (fun _ e he => by simp [Side.opened] at he) (ahead _ h)

/-- A door has closed in lines that keep the timers ahead. -/
theorem State.doorCloses_keeps (d : Fin 12) : KeepsAll s ((s.modLines g).doorCloses d) := by
  unfold State.doorCloses
  split
  · exact s.relines_keeps g (ahead s.time)
  · let closed (x : Side) := x.closed s.time (g s.lines).linger
    refine s.relines_keeps (fun m => { g m with sides := modAt (g m).sides (sideOf d) closed })
      fun h => LineMonitor.ahead_modSide _ _ (fun side e he => ?_) (ahead _ h)
    simp only [closed, Side.closed] at he
    split at he
    · obtain rfl := Option.some.inj he
      exact laterBy_ahead _ (ahead _ h).1
    · exact side e he

/-- OBSTRUCT has risen in lines that keep the flag exact and the timers ahead. -/
theorem State.obstructionEdge_keeps (hidden : s.lines.hidden = s.lines.reverseIsHidden →
    (g s.lines).hidden = (g s.lines).reverseIsHidden) : KeepsAll s (s.modLines g).obstructionEdge := by
  have counted : KeepsAll s ((s.modLines g).modLines fun m => { m with obstructions := satAdd top16 m.obstructions 1 }) :=
    s.modLines_keeps (fun m => { g m with obstructions := satAdd top16 (g m).obstructions 1 }) hidden (ahead s.time)
  unfold State.obstructionEdge
  dsimp only
  split
  · exact counted.trans (KeepsAll.foldl (fun s i _ => s.makeHold_keeps _ i _ _) _)
  · exact counted

/-- A debounced change of a line is acted on. -/
theorem State.lineChanged_keeps (l : Fin 15) (high : Bool) (hidden : l = 14 →
    s.lines.hidden = s.lines.reverseIsHidden → (g s.lines).hidden = (g s.lines).reverseIsHidden) :
    KeepsAll s ((s.modLines g).lineChanged l high) := by
  unfold State.lineChanged
  split
  · split
    · exact s.doorOpens_keeps g ahead _
    · exact s.doorCloses_keeps g ahead _
  · split
    · rename_i obstruct
      split
      · exact s.obstructionEdge_keeps g ahead (hidden obstruct)
      · exact s.modLines_keeps g (hidden obstruct) (ahead s.time)
    · exact s.relines_keeps g (ahead s.time)

end Change

/-- A sample that makes no debounced change leaves the debounced level. -/
theorem LineRecord.sample_debounced (r : LineRecord) (level : Bool) (h : (r.sample level).2 = false) :
    (r.sample level).1.debounced = r.debounced := by
  unfold LineRecord.sample at h ⊢
  split
  · rfl
  · split
    · simp_all
    · rfl

theorem State.sampleLine_keeps (s : State) (levels : BitVec 15) (l : Fin 15) : KeepsAll s (s.sampleLine levels l) := by
  unfold State.sampleLine
  dsimp only
  have same (x : LineRecord) (h : x.debounced = s.lines.lines[l].debounced ∨ l = 14) :
      s.lines.hidden = s.lines.reverseIsHidden → ({ s.lines with lines := modAt s.lines.lines l (fun _ => x) } : LineMonitor).hidden
        = ({ s.lines with lines := modAt s.lines.lines l (fun _ => x) } : LineMonitor).reverseIsHidden := by
    refine fun flag => flag.trans (LineMonitor.reverseIsHidden_congr (m := s.lines)
      (m' := { s.lines with lines := modAt s.lines.lines l (fun _ => x) }) (fun k hk => ?_) rfl rfl rfl rfl).symm
    simp only [modAt_get]
    by_cases e : l = k
    · subst e; rw [if_pos rfl]; exact h.resolve_right hk
    · rw [if_neg e]
  split
  · exact s.lineChanged_keeps _ (fun _ h => h) l _ fun obstruct => same _ (.inr obstruct)
  · rename_i calm
    exact s.modLines_keeps _ (same _ (.inl (LineRecord.sample_debounced _ _ (by simpa using calm)))) id

/-! ### Screen frames (R106 to R115) -/

theorem State.closeFrame_keeps (s : State) (c : Fin 2) (f : ScreenFrame) : KeepsAll s (s.closeFrame c f) :=
  (s.modPool_keeps _ fun h => SlotPool.unpinAll_exact h f.slots).trans
    (State.modScreen_keeps _ c _ (Screen.ahead_of_frame rfl (.inr rfl)))

theorem State.closeIfServed_keeps (s : State) (c : Fin 2) : KeepsAll s (s.closeIfServed c) := by
  unfold State.closeIfServed
  split
  · exact .refl s
  · split
    · exact s.closeFrame_keeps c _
    · exact .refl s

theorem State.closeAnyFrame_keeps (s : State) (c : Fin 2) : KeepsAll s (s.closeAnyFrame c) := by
  unfold State.closeAnyFrame
  split
  · exact .refl s
  · exact s.closeFrame_keeps c _

theorem State.restartFrame_keeps (s : State) (c : Fin 2) : KeepsAll s (s.restartFrame c) := by
  unfold State.restartFrame
  split
  · exact .refl s
  · rename_i f _
    extract_lets carried s1 s2 s3
    have unlatched : KeepsAll s s1 := s.modTransit_keeps _ rfl rfl rfl rfl (by simp) rfl
    have pinned : KeepsAll s1 s2 := s1.modPool_keeps _ fun h =>
      List.foldlRecOn carried _ h fun p hp x _ => SlotPool.pinAll_exact hp _
    have dropped : KeepsAll s2 s3 := s2.modPool_keeps _ fun h => SlotPool.unpinAll_exact h f.slots
    exact ((unlatched.trans pinned).trans dropped).trans
      (s3.modScreen_keeps c _ (Screen.ahead_of_frame rfl (.inr rfl)))

/-- A restart leaves the number of reads in flight. -/
theorem State.restartFrame_reads (s : State) (c : Fin 2) :
    (s.restartFrame c).transit.reads.length = s.transit.reads.length := by
  unfold State.restartFrame
  split
  · rfl
  · simp

theorem State.latch_keeps (s : State) (c : Fin 2) : KeepsAll s (s.latch c) := by
  unfold State.latch
  extract_lets v f s1
  have opened : KeepsAll s s1 := by
    refine (s.modPool_keeps _ fun h => SlotPool.pinAll_exact h f.slots).trans (State.modScreen_keeps _ c _ ?_)
    rintro ⟨timeout, -⟩
    refine ⟨timeout, fun f' e hf he => ?_⟩
    obtain rfl := Option.some.inj hf
    obtain rfl := Option.some.inj he
    exact ⟨rfl, laterBy_ahead _ timeout⟩
  split
  · exact opened
  · exact opened.trans (s1.notify_keeps _ _ _)

theorem State.latch_transit (s : State) (c : Fin 2) : (s.latch c).transit = s.transit := by
  unfold State.latch
  dsimp only
  split <;> rfl

/-- More traffic, where the limits still hold. -/
theorem State.moreTraffic_keeps (s : State) (f : Transit → Transit) (mode : (f s.transit).mode = s.transit.mode)
    (change : (f s.transit).change = s.transit.change) (drainedFrom : (f s.transit).drainedFrom = s.transit.drainedFrom)
    (windows : (f s.transit).windows = s.transit.windows)
    (reads : s.transit.reads ≠ [] → (f s.transit).reads ≠ []) (writes : s.transit.writes ≠ [] → (f s.transit).writes ≠ [])
    (bounded : s.InFlightBounded → (s.modTransit f).InFlightBounded) : KeepsAll s (s.modTransit f) where
  inFlight := bounded
  map := by simp only [State.MapEmptyInPass, State.modTransit_transit, mode, drainedFrom, windows]; exact id
  change := by simp only [State.ChangePending, State.modTransit_transit, State.modTransit_port, mode, change]; exact id
  stands := by
    intro _ h out draining
    simp only [State.modTransit_transit, mode] at draining ⊢
    exact (h out draining).imp reads writes

/-- A read is accepted with what it forms downstream. -/
theorem State.addRead_keeps {s : State} {f : Transit → Transit} {q : ReadReq} {service : ReadService} {beats : List ReadBeat}
    (room : s.transit.reads.length < 32)
    (h : ∃ d n, f s.transit = { s.transit.addRead q service beats with downWaiting := d, ownCount := n }) :
    KeepsAll s (s.modTransit f) := by
  obtain ⟨d, n, same⟩ := h
  refine s.moreTraffic_keeps f (by rw [same]; rfl) (by rw [same]; rfl) (by rw [same]; rfl) (by rw [same]; rfl) ?_ ?_ ?_
  · intro _
    rw [same]
    simp [Transit.addRead]
  · rw [same]; exact id
  · rintro ⟨-, writes⟩
    simp only [State.InFlightBounded, State.modTransit_transit, same, Transit.addRead, List.length_append,
      List.length_singleton]
    exact ⟨by omega, writes⟩

/-- The gather reads are formed behind the others, and nothing else of the Transit Path changes. -/
theorem Transit.formGathers_frame (t : Transit) (p : SlotPool) (key : Nat) (blocks : List GatherBlock) :
    ∃ d n, t.formGathers p key blocks = { t with downWaiting := d, ownCount := n } := by
  unfold Transit.formGathers
  induction blocks generalizing t with
  | nil => exact ⟨_, _, rfl⟩
  | cons b bs ih =>
    obtain ⟨d, n, same⟩ := ih (t.formOwn (.gather key b.slot b.offset) .read (p.slotBase b.slot + b.offset) 1 [])
    exact ⟨d, n, same⟩

theorem State.serveScreen_keeps (s : State) (q : ReadReq) (r : ScreenRead) (room : s.transit.reads.length < 32) :
    KeepsAll s (s.serveScreen q r) := by
  let r' := { r with blocks := neededBlocks (r.sources q.beats) }
  exact State.addRead_keeps (f := fun t => (t.addRead q (.screen r') []).formGathers s.pool t.nextKey r'.blocks) room
    (Transit.formGathers_frame _ _ _ _)

/-- A read joins the frame its screen has. -/
theorem State.serveLatched_keeps (s : State) (c : Fin 2) (f : ScreenFrame) (q : ReadReq) (offset : Nat)
    (room : s.transit.reads.length < 32) (current : (s.screen c).frame = some f) :
    KeepsAll s (s.serveLatched c f q offset) := by
  unfold State.serveLatched
  dsimp only
  refine (s.modScreen_keeps c _ ?_).trans (State.serveScreen_keeps _ q _ room)
  rintro ⟨timeout, ahead⟩
  refine ⟨timeout, fun f' e hf he => ?_⟩
  obtain rfl := Option.some.inj hf
  simp only at he
  split at he
  · simp at he
  · exact ahead f e current he

theorem State.serveUnlatched_keeps (s : State) (c : Fin 2) (q : ReadReq) (offset : Nat)
    (room : s.transit.reads.length < 32) : KeepsAll s (s.serveUnlatched c q offset) := by
  unfold State.serveUnlatched
  dsimp only
  exact ((s.modPool_keeps _ fun h => SlotPool.pinAll_exact h _).trans
    (State.modScreen_keeps _ c _ (Screen.ahead_of_frame rfl (.inl rfl)))).trans (State.serveScreen_keeps _ q _ room)

theorem State.readScreen_keeps (s : State) (c : Fin 2) (q : ReadReq) (offset : Nat)
    (room : s.transit.reads.length < 32) : KeepsAll s (s.readScreen c q offset) := by
  unfold State.readScreen
  split
  · have latched := (s.restartFrame_keeps c).trans (State.latch_keeps _ c)
    dsimp only
    split
    · exact latched
    · rename_i f current
      exact latched.trans (State.serveLatched_keeps _ c f q offset
        (by rw [State.latch_transit, State.restartFrame_reads]; exact room) current)
  · split
    · exact s.serveUnlatched_keeps c q offset room
    · rename_i f current
      split
      · exact s.serveUnlatched_keeps c q offset room
      · exact s.serveLatched_keeps c f q offset room current

theorem State.gatherFault_keeps (s : State) (c : Fin 2) (slot : Nat) : KeepsAll s (s.gatherFault c slot) :=
  (s.notify_keeps _ _ _).trans (State.modScreen_keeps _ c _ (Screen.ahead_of_frame rfl (.inl rfl)))

theorem State.screenReturned_keeps (s : State) (r : ScreenRead) : KeepsAll s (s.screenReturned r) := by
  unfold State.screenReturned
  split
  · refine (s.modScreen_keeps r.screen _ ?_).trans (State.closeIfServed_keeps _ r.screen)
    rintro ⟨timeout, ahead⟩
    refine ⟨timeout, fun f e hf he => ?_⟩
    obtain ⟨f0, current, rfl⟩ := Option.map_eq_some_iff.1 hf
    exact ahead f0 e current he
  · exact (s.modPool_keeps _ fun h => SlotPool.unpinAll_exact h r.pins).trans
      (State.modScreen_keeps _ r.screen _ (Screen.ahead_of_frame rfl (.inl rfl)))

/-! ### The expiries (R39, R114, R132, R166) -/

theorem State.freshnessExpires_keeps (s : State) (i : Fin 16) : KeepsAll s (s.freshnessExpires i) := by
  unfold State.freshnessExpires
  dsimp only
  split
  · have both : (s.modCapture i (fun c => { c with timer := none })).modCapture i (fun c => { c with freshness := .stale })
        = s.modCapture i (fun c => { c with timer := none, freshness := .stale }) := by
      simp [State.modCapture, State.modStream, modAt_modAt]
    rw [both]
    have stale : KeepsAll s (s.modCapture i (fun c => { c with timer := none, freshness := .stale })) :=
      s.modStream_keeps i _ { timed := fun _ => by simp [Capture.Timed], ahead := fun h => ⟨h.1, by simp⟩ }
    exact (stale.trans (State.notify_keeps _ _ _ _)).trans (State.blindStream_keeps _ i 4)
  · rename_i quiet
    exact s.modStream_keeps i _ { timed := fun _ => by simp [Capture.Timed, quiet], ahead := fun h => ⟨h.1, by simp⟩ }

theorem State.frameExpires_keeps (s : State) (c : Fin 2) (f : ScreenFrame) : KeepsAll s (s.frameExpires c f) := by
  unfold State.frameExpires
  refine ((s.modScreen_keeps c _ ?_).trans (State.notify_keeps _ _ _ _)).trans (State.closeIfServed_keeps _ c)
  rintro ⟨timeout, -⟩
  refine ⟨timeout, fun f' e hf he => ?_⟩
  obtain rfl := Option.some.inj hf
  simp at he

theorem State.lingerExpires_keeps (s : State) (x : Fin 2) : KeepsAll s (s.lingerExpires x) :=
  s.relines_keeps _ (LineMonitor.ahead_modSide x _ fun _ e he => by simp at he)

theorem State.takeFreshness_keeps (s : State) (i : Fin 16) : KeepsAll s (s.takeFreshness i) := by
  unfold State.takeFreshness
  split
  · exact s.freshnessExpires_keeps i
  · exact .refl s

theorem State.takeFrame_keeps (s : State) (c : Fin 2) : KeepsAll s (s.takeFrame c) := by
  unfold State.takeFrame
  split
  · exact .refl s
  · split
    · exact s.frameExpires_keeps c _
    · exact .refl s

theorem State.takeLinger_keeps (s : State) (x : Fin 2) : KeepsAll s (s.takeLinger x) := by
  unfold State.takeLinger
  split
  · exact s.lingerExpires_keeps x
  · exact .refl s

theorem State.takeNoticeLinger_keeps (s : State) : KeepsAll s s.takeNoticeLinger := by
  unfold State.takeNoticeLinger
  split
  · exact s.modNotices_keeps _ (NoticeQueue.lingerExpires_keeps _ _)
  · exact .refl s

theorem State.expireDue_keeps (s : State) : KeepsAll s s.expireDue :=
  (((KeepsAll.foldl (fun s i _ => s.takeFreshness_keeps i) s).trans
    (KeepsAll.foldl (fun s c _ => s.takeFrame_keeps c) _)).trans
    (KeepsAll.foldl (fun s x _ => s.takeLinger_keeps x) _)).trans (State.takeNoticeLinger_keeps _)

theorem State.stepEvent_keeps (s : State) (levels : BitVec 15) (e : StepEvent) : KeepsAll s (State.stepEvent levels s e) := by
  cases e with
  | line l => exact s.sampleLine_keeps levels l
  | freshness i => exact s.takeFreshness_keeps i
  | frame c => exact s.takeFrame_keeps c
  | linger x => exact s.takeLinger_keeps x
  | notice => exact s.takeNoticeLinger_keeps

end Sys2Proof.Machine
end

section
/-! PROOFS. What every step keeps: part time advances past no running timer, and what the drain completions and the edges
of RESET_N leave. -/

namespace Sys2Proof.Machine

/-! ### An expiry starts no timer of a stream, a screen or a side -/

/-- Every timer of a stream, of an OPEN frame or of a side that runs in t ran in s, to the same value. -/
structure State.StartsNone (s t : State) : Prop where
  time : t.time = s.time := by rfl
  streams : ∀ i e, (t.stream i).cap.timer = some e → (s.stream i).cap.timer = some e := by exact fun _ _ => id
  frames : ∀ c f e, (t.screen c).frame = some f → f.expired = false → f.timer = some e →
    ∃ f', (s.screen c).frame = some f' ∧ f'.expired = false ∧ f'.timer = some e := by exact fun _ f _ h x e => ⟨f, h, x, e⟩
  sides : ∀ (x : Fin 2) (e : Time), t.lines.sides[x].timer = some e → s.lines.sides[x].timer = some e := by exact fun _ _ => id

theorem State.StartsNone.refl (s : State) : s.StartsNone s := {}

theorem State.StartsNone.trans {s t u : State} (h : s.StartsNone t) (k : t.StartsNone u) : s.StartsNone u where
  time := k.time.trans h.time
  streams := fun i e he => h.streams i e (k.streams i e he)
  frames := fun c f e hf hx he => by
    obtain ⟨f', hf', hx', he'⟩ := k.frames c f e hf hx he
    exact h.frames c f' e hf' hx' he'
  sides := fun x e he => h.sides x e (k.sides x e he)

/-- What each event of a list establishes for its own timer holds of all of them at the end, when none starts a timer. -/
theorem State.foldl_startsNone {α : Type} {f : State → α → State} {p : State → α → Prop}
    (none_ : ∀ (s : State) a, s.StartsNone (f s a)) (own : ∀ (s : State) a, p (f s a) a)
    (left : ∀ (s t : State) a, s.StartsNone t → p s a → p t a)
    (l : List α) (s : State) : s.StartsNone (l.foldl f s) ∧ ∀ a ∈ l, p (l.foldl f s) a := by
  induction l generalizing s with
  | nil => exact ⟨.refl s, by simp⟩
  | cons a l ih =>
    obtain ⟨later, each⟩ := ih (f s a)
    refine ⟨(none_ s a).trans later, fun b hb => ?_⟩
    obtain rfl | old := List.mem_cons.1 hb
    · exact left _ _ _ later (own s b)
    · exact each b old

theorem State.takeFreshness_startsNone (s : State) (i : Fin 16) :
    s.StartsNone (s.takeFreshness i) ∧ ((s.takeFreshness i).stream i).cap.timer ≠ some (s.takeFreshness i).time := by
  unfold State.takeFreshness
  split
  · obtain ⟨g, notices, stopped, same⟩ : ∃ (g : Stream → Stream) (notices : NoticeQueue),
        (∀ st, (g st).cap.timer = none) ∧ s.freshnessExpires i = { s.modStream i g with notices } := by
      unfold State.freshnessExpires
      dsimp only
      split
      · obtain ⟨notices, blind⟩ := State.blindStream_frame (((s.modCapture i (fun c => { c with timer := none })).modCapture i
          (fun c => { c with freshness := .stale })).notify .streamStale i.val (s.stream i).cfg.ageLimit) i 4
        rw [blind]
        refine ⟨fun st => { st with cap := { st.cap with timer := none, freshness := .stale } }, notices, fun _ => rfl, ?_⟩
        simp [State.modCapture, State.modStream, State.notify, State.modNotices, modAt_modAt]
      · exact ⟨fun st => { st with cap := { st.cap with timer := none } }, _, fun _ => rfl, rfl⟩
    rw [same]
    have timers (j : Fin 16) : ((s.modStream i g).stream j).cap.timer = if i = j then none else (s.stream j).cap.timer := by
      rw [State.modStream_stream]
      split
      · exact stopped _
      · rfl
    refine ⟨{ streams := fun j e he => ?_ }, ?_⟩
    · rw [show ({ s.modStream i g with notices } : State).stream j = (s.modStream i g).stream j from rfl, timers] at he
      split at he
      · simp at he
      · exact he
    · rw [show ({ s.modStream i g with notices } : State).stream i = (s.modStream i g).stream i from rfl, timers]
      simp
  · rename_i early
    exact ⟨.refl s, mt timerDue_iff.2 early⟩

/-- Closing a frame where it is served, or not, leaves the other screens and part time. -/
theorem State.closeIfServed_cases (s : State) (c : Fin 2) :
    s.closeIfServed c = s ∨ ∃ f, s.closeIfServed c = s.closeFrame c f := by
  unfold State.closeIfServed
  split
  · exact .inl rfl
  · split
    · exact .inr ⟨_, rfl⟩
    · exact .inl rfl

theorem State.closeFrame_screen (s : State) (c d : Fin 2) (f : ScreenFrame) :
    (s.closeFrame c f).screen d = if c = d then { s.screen d with frame := none } else s.screen d :=
  State.modScreen_screen _ c d _

theorem State.closeIfServed_startsNone (s : State) (c : Fin 2) : s.StartsNone (s.closeIfServed c) := by
  obtain same | ⟨f, same⟩ := s.closeIfServed_cases c
  · rw [same]; exact .refl s
  · rw [same]
    refine { frames := fun d f' e hf hx he => ?_ }
    rw [State.closeFrame_screen] at hf
    split at hf
    · simp at hf
    · exact ⟨f', hf, hx, he⟩

theorem State.takeFrame_startsNone (s : State) (c : Fin 2) : s.StartsNone (s.takeFrame c)
    ∧ ∀ f, ((s.takeFrame c).screen c).frame = some f → f.expired = false → f.timer ≠ some (s.takeFrame c).time := by
  unfold State.takeFrame
  split
  · rename_i none_
    exact ⟨.refl s, fun f hf => by simp [none_] at hf⟩
  · rename_i f0 current
    split
    · unfold State.frameExpires
      generalize told : (s.modScreen c (fun x => { x with
        frame := some { f0 with expired := true, timer := none }, timeouts := satAdd top16 x.timeouts 1 })).notify
          .screenTimeout c.val f0.accepted = u
      have screens (d : Fin 2) : u.screen d = if c = d then { s.screen d with
          frame := some { f0 with expired := true, timer := none }, timeouts := satAdd top16 (s.screen d).timeouts 1 }
          else s.screen d := by
        rw [← told]; exact State.modScreen_screen _ c d _
      have expired : s.StartsNone u := by
        rw [← told] at screens ⊢
        refine { frames := fun d f e hf hx he => ?_ }
        rw [screens] at hf
        split at hf
        · obtain rfl := Option.some.inj hf
          simp at hx
        · exact ⟨f, hf, hx, he⟩
      have closed := u.closeIfServed_startsNone c
      refine ⟨expired.trans closed, fun f hf hx due => ?_⟩
      obtain ⟨f', hf', hx', -⟩ := closed.frames c f _ hf hx due
      rw [screens, if_pos rfl] at hf'
      obtain rfl := Option.some.inj hf'
      simp at hx'
    · rename_i early
      refine ⟨.refl s, fun f hf hx due => early ?_⟩
      obtain rfl : f0 = f := Option.some.inj (current.symm.trans hf)
      simp [hx, timerDue_iff.2 due]

theorem State.takeLinger_startsNone (s : State) (x : Fin 2) :
    s.StartsNone (s.takeLinger x) ∧ (s.takeLinger x).lines.sides[x].timer ≠ some (s.takeLinger x).time := by
  unfold State.takeLinger
  split
  · unfold State.lingerExpires
    rw [State.recomputeHidden_eq]
    refine ⟨{ sides := fun y e he => ?_ }, ?_⟩
    · simp only [State.withLines, State.modSide_lines, modAt_get] at he
      split at he
      · simp at he
      · exact he
    · simp only [State.withLines, State.modSide_lines, modAt_get]
      simp
  · rename_i early
    exact ⟨.refl s, mt timerDue_iff.2 early⟩

theorem State.takeNoticeLinger_startsNone (s : State) :
    s.StartsNone s.takeNoticeLinger ∧ s.takeNoticeLinger.notices.timer ≠ some s.takeNoticeLinger.time := by
  unfold State.takeNoticeLinger
  split
  · exact ⟨{}, by simp [NoticeQueue.lingerExpires]⟩
  · rename_i early
    exact ⟨.refl s, mt timerDue_iff.2 early⟩

section Left
variable {s t : State} (h : s.StartsNone t)
include h

theorem State.StartsNone.stream_left {i : Fin 16} (early : (s.stream i).cap.timer ≠ some s.time) :
    (t.stream i).cap.timer ≠ some t.time := fun due => early (h.streams i _ (h.time ▸ due))

theorem State.StartsNone.frame_left {c : Fin 2}
    (early : ∀ f, (s.screen c).frame = some f → f.expired = false → f.timer ≠ some s.time) :
    ∀ f, (t.screen c).frame = some f → f.expired = false → f.timer ≠ some t.time := fun f hf hx due => by
  obtain ⟨f', hf', hx', due'⟩ := h.frames c f _ hf hx due
  exact early f' hf' hx' (h.time ▸ due')

theorem State.StartsNone.side_left {x : Fin 2} (early : s.lines.sides[x].timer ≠ some s.time) :
    t.lines.sides[x].timer ≠ some t.time := fun due => early (h.sides x _ (h.time ▸ due))

end Left

/-- Once the expiries have been taken, no timer stands at the present value of part time (R184). -/
theorem State.expireDue_noneDue (s : State) : s.expireDue.NoneDue s.expireDue.time ∧ s.expireDue.time = s.time := by
  obtain ⟨later1, streams⟩ := State.foldl_startsNone (f := State.takeFreshness) (p := fun t i => (t.stream i).cap.timer ≠ some t.time)
    (fun t i => (t.takeFreshness_startsNone i).1) (fun t i => (t.takeFreshness_startsNone i).2)
    (fun _ _ _ k => k.stream_left) (List.finRange 16) s
  obtain ⟨later2, frames⟩ := State.foldl_startsNone (f := State.takeFrame)
    (p := fun t c => ∀ f, (t.screen c).frame = some f → f.expired = false → f.timer ≠ some t.time)
    (fun t c => (t.takeFrame_startsNone c).1) (fun t c => (t.takeFrame_startsNone c).2)
    (fun _ _ _ k => k.frame_left) (List.finRange 2) ((List.finRange 16).foldl State.takeFreshness s)
  obtain ⟨later3, sides⟩ := State.foldl_startsNone (f := State.takeLinger) (p := fun t x => t.lines.sides[x].timer ≠ some t.time)
    (fun t x => (t.takeLinger_startsNone x).1) (fun t x => (t.takeLinger_startsNone x).2)
    (fun _ _ _ k => k.side_left) (List.finRange 2)
    ((List.finRange 2).foldl State.takeFrame ((List.finRange 16).foldl State.takeFreshness s))
  obtain ⟨later4, notice⟩ := State.takeNoticeLinger_startsNone ((List.finRange 2).foldl State.takeLinger
    ((List.finRange 2).foldl State.takeFrame ((List.finRange 16).foldl State.takeFreshness s)))
  unfold State.expireDue
  exact ⟨⟨fun i => (later2.trans (later3.trans later4)).stream_left (streams i (List.mem_finRange i)),
    fun c => (later3.trans later4).frame_left (frames c (List.mem_finRange c)),
    fun x => later4.side_left (sides x (List.mem_finRange x)), notice⟩,
    (later1.trans (later2.trans (later3.trans later4))).time⟩

/-! ### Part time advances (R184) -/

/-- A timer that stands at another value than the present one comes one nearer. -/
theorem ahead_advance {now e : Time} {limit : Nat} (h : (e - now).toNat ≤ limit) (early : e ≠ now) :
    (e - (now + 1)).toNat ≤ limit := by
  have nearer : e - (now + 1) = e - now - 1 := sub_add_eq_sub_sub e now 1
  have later : e - now ≠ 0 := sub_ne_zero.2 early
  rw [nearer]
  generalize e - now = d at h later
  bv_omega

/-- Part time leaves a value at which no timer expires. -/
theorem State.advance_keeps (s : State) (early : s.NoneDue s.time) : KeepsAll s { s with time := s.time + 1 } where
  timers := by
    obtain ⟨streams, frames, sides, notice⟩ := early
    simp only [State.timersAhead_iff]
    rintro ⟨hStreams, hScreens, ⟨linger, hSides⟩, hNotices⟩
    refine ⟨fun i => ⟨(hStreams i).1, fun e he => ?_⟩, fun c => ⟨(hScreens c).1, fun f e hf he => ?_⟩,
      ⟨linger, fun x e he => ?_⟩, ⟨hNotices.1, fun e he => ?_⟩⟩
    · exact ahead_advance ((hStreams i).2 e he) fun now => streams i (now ▸ he)
    · obtain ⟨open_, ahead⟩ := (hScreens c).2 f e hf he
      exact ⟨open_, ahead_advance ahead fun now => frames c f hf open_ (now ▸ he)⟩
    · exact ahead_advance (hSides x e he) fun now => sides x (now ▸ he)
    · exact ahead_advance (hNotices.2 e he) fun now => notice (now ▸ he)

/-- A millisecond: the expiries left over, part time, and the events in their order. -/
theorem State.tick_keeps (s : State) (levels : BitVec 15) (order : List StepEvent) : KeepsAll s (s.tick levels order) := by
  obtain ⟨early, time⟩ := s.expireDue_noneDue
  unfold State.tick
  rw [← time]
  exact (s.expireDue_keeps.trans (s.expireDue.advance_keeps early)).trans
    (KeepsAll.foldl (fun u e _ => u.stepEvent_keeps levels e) _)

/-! ### Every stream and screen changed at once -/

theorem State.mapStreams_keeps (s : State) (f : Stream → Stream) (h : ∀ st : Stream, st.Keeps s.time (f st)) :
    KeepsAll s { s with streams := mapAll f s.streams } := by
  have stream (i : Fin 16) : ({ s with streams := mapAll f s.streams } : State).stream i = f (s.stream i) := mapAll_get f _ i
  exact {
    freshness := fun all i => by simp only [stream]; exact (h _).timed (all i)
    energies := by
      simp only [State.energiesBounded_iff, stream]
      exact fun ⟨streams, evals⟩ => ⟨fun i => (h _).bounded (streams i), evals⟩
    lens := fun all i => by simp only [stream]; exact (h _).judged (all i)
    timers := by
      simp only [State.timersAhead_iff, stream]
      exact fun ⟨streams, rest⟩ => ⟨fun i => (h _).ahead (streams i), rest⟩ }

theorem State.mapScreens_keeps (s : State) (f : Screen → Screen) (h : ∀ x : Screen, x.Ahead s.time → (f x).Ahead s.time) :
    KeepsAll s { s with comp := { s.comp with screens := mapAll f s.comp.screens } } := by
  have screen (c : Fin 2) : ({ s with comp := { s.comp with screens := mapAll f s.comp.screens } } : State).screen c
      = f (s.screen c) := mapAll_get f _ c
  exact {
    timers := by
      simp only [State.timersAhead_iff, screen]
      exact fun ⟨streams, screens, rest⟩ => ⟨streams, fun c => h _ (screens c), rest⟩ }

theorem Stream.modeChange_keeps (now : Time) (st : Stream) : st.Keeps now st.modeChange where
  timed := fun _ => by simp [Stream.modeChange, Capture.modeChange, Capture.Timed]
  bounded := fun h => ⟨h.1, Accumulators.dropTo_bounded _ _⟩
  ahead := fun h => ⟨h.1, by simp [Stream.modeChange, Capture.modeChange]⟩

theorem Stream.softReset_keeps (now : Time) (st : Stream) : st.Keeps now st.softReset where
  timed := fun _ => by simp [Stream.softReset, Capture.softReset, Capture.modeChange, Capture.Timed]
  bounded := fun _ => ⟨fun t => by simp [Stream.softReset, Tile.Bounded, Tile.reset], Accumulators.bounded_of_clear rfl rfl⟩
  judged := fun _ _ => rfl
  ahead := fun h => ⟨h.1, by simp [Stream.softReset, Capture.softReset, Capture.modeChange]⟩

/-- A drain completion empties the evaluation queue. -/
theorem State.emptyQueue_keeps (s : State) (current : Option InEvaluation)
    (h : current = s.evals.current ∨ current = none) :
    KeepsAll s (s.modEvals fun e => { e with queue := [], current := current }) := by
  refine s.modEvals_keeps _ (fun _ => ⟨by simp, fun _ => rfl⟩) fun bounded => ⟨by simp, fun x hx => ?_⟩
  obtain same | none_ := h
  · exact bounded.2 x (same ▸ hx)
  · simp [none_] at hx

/-! ### Drain completion (R15) -/

/-- The new mode is set and the command ends. -/
theorem State.finishDrain_keeps (s : State) (mode : Mode) (windows : List Window) (ended : mode ≠ .draining)
    (map : mode = .pass → windows = []) : KeepsAll s (s.finishDrain mode windows) where
  map := fun _ => ⟨map, fun draining => absurd draining ended⟩
  change := fun _ => by
    refine ⟨⟨fun draining => absurd draining ended, fun change => absurd rfl change⟩,
      ⟨fun draining => absurd draining ended, fun h => ?_⟩, fun c h => ?_⟩ <;> cases h
  stands := fun _ _ _ draining => absurd draining ended

theorem State.completeCommit_keeps (s : State) : KeepsAll s s.completeCommit := by
  unfold State.completeCommit
  have streams := s.mapStreams_keeps Stream.modeChange fun st => st.modeChange_keeps s.time
  have pool := streams.trans (State.modPool_keeps _ (fun p => p.committed s.streams) fun _ => SlotPool.committed_exact _ _)
  have queue := pool.trans (State.emptyQueue_keeps _ s.evals.current (.inl rfl))
  have screens := queue.trans (State.mapScreens_keeps _ Screen.modeChange fun _ => Screen.ahead_of_frame rfl (.inr rfl))
  exact (screens.trans (State.relines_keeps _ id id)).trans (State.finishDrain_keeps _ .active _ (by simp) (by simp))

theorem State.completeReturn_keeps (s : State) : KeepsAll s s.completeReturn := by
  unfold State.completeReturn
  let s1 := ((s.closeAnyFrame 0).closeAnyFrame 1).discardGroups
  have closed : KeepsAll s s1 := ((s.closeAnyFrame_keeps 0).trans (State.closeAnyFrame_keeps _ 1)).trans
    (State.discardGroups_keeps _)
  have streams := s1.mapStreams_keeps Stream.modeChange fun st => st.modeChange_keeps s1.time
  have pool := streams.trans (State.modPool_keeps _ SlotPool.emptied fun _ => SlotPool.emptied_exact _)
  have queue := pool.trans (State.emptyQueue_keeps _ s1.evals.current (.inl rfl))
  have screens :=
    queue.trans (State.mapScreens_keeps _ Screen.modeChange fun _ => Screen.ahead_of_frame rfl (.inr rfl))
  exact ((closed.trans screens).trans (State.relines_keeps _ id id)).trans
    (State.finishDrain_keeps _ .pass _ (by simp) fun _ => rfl)

/-- A dump matters to no kept property. -/
theorem State.dumpAbandon_keeps (s : State) : KeepsAll s s.dumpAbandon :=
  (s.modTransit_keeps (fun _ => s.dumpAbandon.transit) rfl rfl rfl rfl rfl rfl).trans
    (State.modPort_keeps _ (fun _ => s.dumpAbandon.port) rfl)

/-- Lines that are all low hide no view. -/
theorem LineMonitor.softReset_hidden (m : LineMonitor) : m.softReset.hidden = m.softReset.reverseIsHidden := by
  simp [reverseIsHidden, reverseActive, reversing, softReset, reset]

/-- Part time is set where no timer runs. -/
theorem State.retime_keeps (s : State) (now : Time) (streams : ∀ i, (s.stream i).cap.timer = none)
    (screens : ∀ c, (s.screen c).frame = none) (sides : ∀ x : Fin 2, s.lines.sides[x].timer = none)
    (notices : s.notices.timer = none) : KeepsAll s { s with time := now } where
  timers := by
    simp only [State.timersAhead_iff]
    rintro ⟨hStreams, hScreens, ⟨linger, -⟩, hNotices⟩
    refine ⟨fun i => ⟨(hStreams i).1, fun e he => ?_⟩, fun c => ⟨(hScreens c).1, fun f e hf => ?_⟩,
      ⟨linger, fun x e he => ?_⟩, ⟨hNotices.1, fun e he => ?_⟩⟩
    · exact absurd he (by rw [show ({ s with time := now } : State).stream i = s.stream i from rfl, streams]; simp)
    · exact absurd hf (by rw [show ({ s with time := now } : State).screen c = s.screen c from rfl, screens]; simp)
    · exact absurd he (by rw [sides]; simp)
    · exact absurd he (by rw [notices]; simp)

theorem State.completeSoftReset_keeps (s : State) : KeepsAll s s.completeSoftReset := by
  unfold State.completeSoftReset
  let s1 := ((s.closeAnyFrame 0).closeAnyFrame 1).dumpAbandon
  have closed : KeepsAll s s1 := ((s.closeAnyFrame_keeps 0).trans (State.closeAnyFrame_keeps _ 1)).trans
    (State.dumpAbandon_keeps _)
  have streams := s1.mapStreams_keeps Stream.softReset fun st => st.softReset_keeps s1.time
  have pool := streams.trans (State.modPool_keeps _ SlotPool.emptied fun _ => SlotPool.emptied_exact _)
  have queue := pool.trans (State.emptyQueue_keeps _ none (.inr rfl))
  have screens := queue.trans (State.mapScreens_keeps _ Screen.softReset fun _ => Screen.ahead_of_frame rfl (.inr rfl))
  have lines := screens.trans (State.modLines_keeps _ LineMonitor.softReset (fun _ => LineMonitor.softReset_hidden _)
    fun h => ⟨h.1, fun x e he => by simp [LineMonitor.softReset, LineMonitor.reset] at he⟩)
  have holds := lines.trans (State.modHolds_keeps _ HoldTable.softReset fun _ => HoldTable.bounded_of_none rfl)
  have notices := holds.trans (State.modNotices_keeps _ NoticeQueue.clear (NoticeQueue.clear_keeps _ _))
  have stopped := notices.trans (State.retime_keeps _ 0
    (fun i => by show (mapAll Stream.softReset s1.streams)[i].cap.timer = none; rw [mapAll_get]; rfl)
    (fun c => by show (mapAll Screen.softReset s1.comp.screens)[c].frame = none; rw [mapAll_get]; rfl)
    (fun x => by show LineMonitor.reset.sides[x].timer = none; simp [LineMonitor.reset]) rfl)
  exact (closed.trans stopped).trans (State.finishDrain_keeps _ .pass _ (by simp) fun _ => rfl)

theorem State.completeDrain_keeps (s : State) : KeepsAll s s.completeDrain := by
  unfold State.completeDrain
  split
  · exact .refl s
  · exact s.completeCommit_keeps
  · exact s.completeReturn_keeps
  · exact s.completeSoftReset_keeps

theorem State.drainIfDone_keeps (s : State) : KeepsAll s s.drainIfDone := by
  unfold State.drainIfDone
  split
  · exact s.completeDrain_keeps
  · exact .refl s

/-- A drain with a change pending ends once nothing is in flight. -/
theorem State.drainIfDone_stands (s : State) (h : s.ChangePending) : s.drainIfDone.DrainStands := by
  unfold State.drainIfDone
  split
  · rename_i done
    intro _ draining
    unfold State.completeDrain at draining
    split at draining
    · rename_i none_
      exact absurd none_ (h.1.1 done.1)
    all_goals cases draining
  · rename_i flying
    intro _ draining
    by_contra neither
    exact flying ⟨draining, not_or.1 neither |>.imp not_not.1 not_not.1⟩

/-- A mode command enters DRAINING: the change is pending, the drain not yet examined. -/
theorem State.enterDraining_keeps (s : State) (change : Change) (h : change ≠ .none) : Keeps s (s.enterDraining change) where
  map := fun ⟨pass, _⟩ => ⟨by simp [State.enterDraining], fun _ from_ => pass from_⟩
  change := fun _ => ⟨⟨fun _ => h, fun _ => rfl⟩, ⟨fun _ => rfl, fun _ => rfl⟩, fun _ _ => rfl⟩

/-! ### The edges of RESET_N (R16, R184) -/

/-- The assertion ends every activity; what a drain and the hidden flag stand for is not asked until the release. -/
theorem State.assertReset_keeps (s : State) : KeepsAll s s.assertReset where
  inFlight := fun _ => ⟨Nat.zero_le _, Nat.zero_le _⟩
  freshness := (s.mapStreams_keeps Stream.modeChange fun st => st.modeChange_keeps s.time).freshness
  queue := fun _ => ⟨Nat.zero_le _, fun _ => rfl⟩
  energies := fun h => by
    obtain ⟨streams, -⟩ := (State.energiesBounded_iff _).1
      ((s.mapStreams_keeps Stream.modeChange fun st => st.modeChange_keeps s.time).energies h)
    exact (State.energiesBounded_iff _).2 ⟨streams, by simp [State.assertReset, Evaluator.Bounded]⟩
  lens := (s.mapStreams_keeps Stream.modeChange fun st => st.modeChange_keeps s.time).lens
  hidden := fun _ out => by cases out
  coalesced := (s.notices.clear_keeps s.time).coalesced
  ntf := by simp only [State.ntfFollows_iff]; exact (s.notices.clear_keeps s.time).follows
  timers := fun h => by
    obtain ⟨streams, -⟩ := (State.timersAhead_iff _).1
      ((s.mapStreams_keeps Stream.modeChange fun st => st.modeChange_keeps s.time).timers h)
    obtain ⟨-, screens, -⟩ := (State.timersAhead_iff _).1
      ((s.mapScreens_keeps (fun x => { x with frame := none, unlatched := 0 })
        fun _ => Screen.ahead_of_frame rfl (.inr rfl)).timers h)
    obtain ⟨-, -, lines, notices⟩ := s.timersAhead_iff.1 h
    exact (State.timersAhead_iff _).2 ⟨streams, screens,
      ⟨lines.1, fun x e he => by rw [show s.assertReset.lines.sides[x] = _ from mapAll_get _ _ x] at he; simp at he⟩,
      (s.notices.clear_keeps s.time).ahead notices⟩
  stands := fun _ _ out => by cases out

/-- Settles O60: each property of the part after reset is one of closed tables: nothing in flight, no slot, no record, no
notice, no timer. -/
theorem resetHasEveryKeptProperty : Obligations.ResetHasEveryKeptProperty := by
  have stream (i : Fin 16) : State.reset.stream i = Stream.reset := by simp [State.stream, State.reset]
  have screen (c : Fin 2) : State.reset.screen c = Screen.reset := replicate_get 2 Screen.reset c
  refine ⟨⟨by decide, by decide⟩, (State.drainConsistent_iff _).2 ⟨?_, ?_⟩, ⟨fun _ => rfl, fun _ _ => rfl⟩, ?_, ?_,
    ⟨by decide, fun _ => rfl⟩, (State.energiesBounded_iff _).2 ⟨?_, ?_⟩, ?_, ?_, ?_, ?_, ?_,
    (State.timersAhead_iff _).2 ⟨?_, ?_, ?_, ?_⟩⟩
  · simp [State.ChangePending, State.reset, Transit.reset, ControlPort.reset]
  · simp [State.DrainStands, State.reset, Transit.reset]
  · simp [State.FreeListExact, SlotPool.FreeListExact, State.reset, SlotPool.reset]
  · intro i; rw [stream]; decide
  · intro i
    rw [stream]
    exact ⟨fun t => by simp [Stream.reset, Tile.reset, Tile.Bounded], Accumulators.bounded_of_clear rfl rfl⟩
  · simp [Evaluator.Bounded, State.reset, Evaluator.reset]
  · intro i _; rw [stream]; rfl
  · intro _; simp [State.reset, LineMonitor.reset, LineMonitor.reverseIsHidden, LineMonitor.reverseActive, LineMonitor.reversing]
  · exact HoldTable.bounded_of_none (t' := HoldTable.reset) rfl
  · simp [State.NoticesCoalesced, State.reset, NoticeQueue.reset]
  · simp [State.NtfFollows, State.reset, NoticeQueue.reset]
  · intro i; rw [stream]; simp [Stream.Ahead, Stream.reset, StreamConfig.reset, Capture.reset]
  · intro c; rw [screen]; simp [Screen.Ahead, Screen.reset]
  · simp [LineMonitor.Ahead, Side.Ahead, State.reset, LineMonitor.reset]
  · simp [NoticeQueue.Ahead, State.reset, NoticeQueue.reset]

end Sys2Proof.Machine
end

section
/-! PROOFS. What every step keeps, the Transit Path: requests accepted, answers returned and matched, and the port settled
after what ends a transaction or enters DRAINING. -/

namespace Sys2Proof.Machine

/-! ### Acceptance (R2, R7 to R12) -/

section Read
variable (s : State) (q : ReadReq) (room : s.transit.reads.length < 32)
include room

theorem State.answerRead_keeps (resp : Resp) : KeepsAll s (s.answerRead q resp) :=
  State.addRead_keeps (f := fun t => t.addRead q .answered (partBeats q.beats resp)) room ⟨_, _, rfl⟩

theorem State.forwardRead_keeps : KeepsAll s (s.forwardRead q) :=
  State.addRead_keeps (f := fun t => (t.addRead q .forwarded []).form
    ⟨.forwardedRead t.nextKey, .read, q.id, q.addr.toNat, q.burst, q.beats, [], q.beats⟩) room ⟨_, _, rfl⟩

theorem State.redirectRead_keeps (service : ReadService) (owner : Nat → DownOwner) (slot offset : Nat) :
    KeepsAll s (s.redirectRead q service owner slot offset) :=
  (State.addRead_keeps (f := fun t => (t.addRead q service []).form
    ⟨owner t.nextKey, .read, q.id, s.pool.slotBase slot + offset, q.burst, q.beats, [], q.beats⟩) room ⟨_, _, rfl⟩).trans
    (State.modPool_keeps _ _ fun h => SlotPool.update_exact _ h slot Slot.pin)

theorem State.readCapture_keeps (i : Fin 16) (offset : Nat) : KeepsAll s (s.readCapture i q offset) := by
  unfold State.readCapture
  split
  · exact s.answerRead_keeps q room .error
  · dsimp only
    split
    · exact s.answerRead_keeps q room .okay
    · exact s.redirectRead_keeps q room _ _ _ _

theorem State.readReview_keeps (offset : Nat) : KeepsAll s (s.readReview q offset) := by
  unfold State.readReview
  split
  · exact s.answerRead_keeps q room .error
  · dsimp only
    split
    · exact s.answerRead_keeps q room .okay
    · exact s.redirectRead_keeps q room _ _ _ _

theorem State.acceptRead_keeps : KeepsAll s (s.acceptRead q) := by
  unfold State.acceptRead
  split
  · split
    · exact (s.notify_keeps _ _ _).trans (State.answerRead_keeps (s.notify _ _ _) q room .error)
    · exact (s.notify_keeps _ _ _).trans (State.answerRead_keeps (s.notify _ _ _) q room .error)
    · exact s.answerRead_keeps q room .error
    · exact s.forwardRead_keeps q room
    · exact s.readCapture_keeps q room _ _
    · exact s.readScreen_keeps _ q _ room
    · exact s.readReview_keeps q room _
  · exact s.forwardRead_keeps q room

end Read

section Write
variable (s : State) (q : WriteReq) (room : s.transit.writes.length < 32)
include room

/-- A write is accepted with what it forms downstream. -/
theorem State.addWrite_keeps {f : Transit → Transit} {service : WriteService} {response : Option Resp}
    (h : ∃ d, f s.transit = { s.transit.addWrite q service response with downWaiting := d }) : KeepsAll s (s.modTransit f) := by
  obtain ⟨d, same⟩ := h
  refine s.moreTraffic_keeps f (by rw [same]; rfl) (by rw [same]; rfl) (by rw [same]; rfl) (by rw [same]; rfl) ?_ ?_ ?_
  · rw [same]; exact id
  · intro _
    rw [same]
    simp [Transit.addWrite]
  · rintro ⟨reads, -⟩
    simp only [State.InFlightBounded, State.modTransit_transit, same, Transit.addWrite, List.length_append,
      List.length_singleton]
    exact ⟨reads, by omega⟩

theorem State.refuseWrite_keeps : KeepsAll s (s.refuseWrite q) :=
  s.addWrite_keeps q room (f := fun t => t.addWrite q .refused (some .error)) ⟨_, rfl⟩

theorem State.forwardWrite_keeps : KeepsAll s (s.forwardWrite q) :=
  s.addWrite_keeps q room (f := fun t => (t.addWrite q .forwarded none).form
    ⟨.forwardedWrite t.nextKey, .write, q.id, q.addr.toNat, q.burst, q.beats.length, q.beats, 1⟩) ⟨_, rfl⟩

theorem State.writeCapture_keeps (i : Fin 16) (offset : Nat) : KeepsAll s (s.writeCapture i q offset) :=
  (s.addWrite_keeps q room (f := fun t => t.addWrite q (.held i) none) ⟨_, rfl⟩).trans (State.handWrite_keeps _ i _)

theorem State.acceptWrite_keeps : KeepsAll s (s.acceptWrite q) := by
  unfold State.acceptWrite
  split
  · split
    · exact (s.notify_keeps _ _ _).trans (State.refuseWrite_keeps (s.notify _ _ _) q room)
    · exact (s.notify_keeps _ _ _).trans (State.refuseWrite_keeps (s.notify _ _ _) q room)
    · exact s.refuseWrite_keeps q room
    · exact s.forwardWrite_keeps q room
    · exact s.writeCapture_keeps q room _ _
    · exact s.refuseWrite_keeps q room
    · exact s.refuseWrite_keeps q room
  · exact s.forwardWrite_keeps q room

end Write

theorem State.offer_keeps (s : State) (r : PortReq) : KeepsAll s (s.offer r) := by
  obtain ⟨admitted, same⟩ | same := s.offer_cases r
  · rw [same]
    cases r with
    | read q => exact s.acceptRead_keeps q (by simp only [State.canAccept, decide_eq_true_eq] at admitted; exact admitted.2)
    | write q => exact s.acceptWrite_keeps q (by simp only [State.canAccept, decide_eq_true_eq] at admitted; exact admitted.2)
  · rw [same]
    exact s.modTransit_keeps _ rfl rfl rfl rfl rfl rfl

theorem State.acceptWaiting_keeps (s : State) : KeepsAll s s.acceptWaiting :=
  (s.modTransit_keeps (fun t => { t with waiting := [] }) rfl rfl rfl rfl rfl rfl).trans
    (KeepsAll.foldl (fun u r _ => u.offer_keeps r) _)

/-- What leaves the drain to be examined keeps every property once the port is settled. -/
theorem Keeps.settled {s t : State} (h : Keeps s t) : KeepsAll s t.settlePort where
  toKeeps := h.trans (t.drainIfDone_keeps.trans t.drainIfDone.acceptWaiting_keeps).toKeeps
  stands := fun change _ =>
    let pending := h.change change
    t.drainIfDone.acceptWaiting_keeps.stands (t.drainIfDone_keeps.change pending) (t.drainIfDone_stands pending)

/-! ### Answers (R1, R3, R4) -/

/-- A transaction that has been answered leaves; the drain is examined afterwards. -/
theorem State.lessTraffic_keeps (s : State) (f : Transit → Transit) (mode : (f s.transit).mode = s.transit.mode)
    (change : (f s.transit).change = s.transit.change) (drainedFrom : (f s.transit).drainedFrom = s.transit.drainedFrom)
    (windows : (f s.transit).windows = s.transit.windows)
    (reads : (f s.transit).reads.length ≤ s.transit.reads.length)
    (writes : (f s.transit).writes.length ≤ s.transit.writes.length) : Keeps s (s.modTransit f) where
  inFlight := fun ⟨r, w⟩ => ⟨Nat.le_trans reads r, Nat.le_trans writes w⟩
  map := by simp only [State.MapEmptyInPass, State.modTransit_transit, mode, drainedFrom, windows]; exact id
  change := by simp only [State.ChangePending, State.modTransit_transit, State.modTransit_port, mode, change]; exact id

theorem State.readReturned_keeps (s : State) (x : ReadTxn) : KeepsAll s (s.readReturned x) := by
  have unpinned (slot : Nat) : KeepsAll s (s.modPool (fun p => p.unpin slot)) :=
    s.modPool_keeps _ fun h => SlotPool.update_exact _ h slot Slot.unpin
  unfold State.readReturned
  split
  · exact .refl s
  · exact .refl s
  · exact unpinned _
  · dsimp only
    split
    · exact unpinned _
    · exact (unpinned _).trans (State.autoReleaseMapped_keeps _ _)
  · exact s.screenReturned_keeps _

theorem State.returnRead_keeps (s : State) (id : TxnId) : KeepsAll s (s.returnRead id) := by
  unfold State.returnRead
  split
  · exact .refl s
  · split
    · exact ((s.lessTraffic_keeps _ rfl rfl rfl rfl (removeFirst_length_le _ _) (Nat.le_refl _)).trans
        (State.readReturned_keeps _ _).toKeeps).settled
    · exact .refl s

theorem State.returnWrite_keeps (s : State) (id : TxnId) : KeepsAll s (s.returnWrite id) := by
  unfold State.returnWrite
  split
  · exact .refl s
  · split
    · exact .refl s
    · split
      · exact (s.lessTraffic_keeps _ rfl rfl rfl rfl (Nat.le_refl _) (removeFirst_length_le _ _)).settled
      · exact .refl s

theorem State.gatherAnswered_keeps (s : State) (key slot offset : Nat) (beat : ReadBeat) :
    KeepsAll s (s.gatherAnswered key slot offset beat) := by
  unfold State.gatherAnswered
  split
  · exact .refl s
  · split
    · dsimp only
      split
      · exact (s.modRead_keeps key _).trans (State.gatherFault_keeps _ _ slot)
      · exact s.modRead_keeps key _
    · exact .refl s

theorem State.answered_keeps (s : State) (owner : DownOwner) (beat : ReadBeat) : KeepsAll s (s.answered owner beat) := by
  cases owner with
  | forwardedRead key => exact s.modRead_keeps key _
  | captureRead key => exact s.modRead_keeps key _
  | reviewRead key => exact s.modRead_keeps key _
  | gather key slot offset => exact s.gatherAnswered_keeps key slot offset beat
  | forwardedWrite key => exact s.modWrite_keeps key _
  | steeredWrite key i => exact s.steeredAnswered_keeps i key beat.resp
  | dump abandoned =>
    cases abandoned with
    | true => exact .refl s
    | false => exact s.dumpAnswered_keeps beat.resp

theorem State.matchDown_keeps (s : State) (p : DownReq → Bool) (n : Nat) (beat : ReadBeat) :
    KeepsAll s (s.matchDown p n beat) := by
  unfold State.matchDown
  split
  · exact .refl s
  · exact (s.modTransit_keeps _ rfl rfl rfl rfl rfl rfl).trans (State.answered_keeps _ _ beat)

theorem State.answerTo_keeps {α : Type} (s : State) (a : AnswerTo α) (use : α → State) (h : ∀ x, KeepsAll s (use x)) :
    KeepsAll s (s.answerTo a use) := by
  cases a with
  | sinceReset which => exact h which
  | beforeReset which => exact .refl s

theorem State.issue_keeps (s : State) : KeepsAll s (s.modTransit Transit.issue) := by
  obtain ⟨d, n, same⟩ : ∃ d n, s.transit.issue = { s.transit with downWaiting := d, downIssued := n } := by
    unfold Transit.issue
    split <;> exact ⟨_, _, rfl⟩
  apply s.modTransit_keeps <;> rw [same]

/-- The release of RESET_N leaves every block at its values after pin reset, which have every property. -/
theorem State.released_keeps (s : State) : KeepsAll s { State.reset with pending := s.pending } := by
  obtain ⟨inFlight, drain, map, freeList, freshness, queue, energies, lens, hidden, holds, coalesced, ntf, timers⟩ :=
    resetHasEveryKeptProperty
  obtain ⟨change, stands⟩ := (State.drainConsistent_iff _).1 drain
  exact {
    inFlight := fun _ => inFlight, map := fun _ => map, change := fun _ => change, freeList := fun _ => freeList
    freshness := fun _ => freshness, queue := fun _ => queue, energies := fun _ => energies, lens := fun _ => lens
    hidden := fun _ => hidden, holds := fun _ => holds, coalesced := fun _ => coalesced, ntf := fun _ => ntf
    timers := fun _ => timers, stands := fun _ _ => stands }

/-! ### Request frames (R173, R175, R184) -/

/-- A response is ready where no mode command is PENDING. -/
theorem State.reply_keeps (s : State) (st : Status) (data : List Byte) (idle : ∀ c, s.port.buffer ≠ .pending c) :
    KeepsAll s (s.reply st data) where
  change := by
    rintro ⟨change, pending, -⟩
    have quiet : s.transit.mode ≠ .draining := fun draining => idle _ (pending.1 draining)
    refine ⟨change, ⟨fun draining => absurd draining quiet, fun h => ?_⟩, fun c h => ?_⟩ <;> cases h

theorem State.refuse_keeps (s : State) (st : Status) (idle : ∀ c, s.port.buffer ≠ .pending c) : KeepsAll s (s.refuse st) :=
  s.reply_keeps st [] idle

/-- What a command does that leaves the buffer, and then its response. -/
theorem KeepsAll.replied {s t : State} (h : KeepsAll s t) (buffer : t.port.buffer = s.port.buffer)
    (idle : ∀ c, s.port.buffer ≠ .pending c) (st : Status) (data : List Byte) : KeepsAll s (t.reply st data) :=
  h.trans (t.reply_keeps st data (by rw [buffer]; exact idle))

theorem State.driveZeros_keeps (s : State) (body : List Byte) : KeepsAll s (s.driveZeros body) := s.modPort_keeps _ rfl

/-- A request frame keeps every property when its command does. -/
theorem State.request_keeps (s : State) (lenOk : Nat → Bool) (body : List Byte) (k : List Byte → State → State)
    (h : ∀ ps (u : State), (∀ c, u.port.buffer ≠ .pending c) → KeepsAll u (k ps u)) :
    KeepsAll s (s.request lenOk body k) := by
  obtain ⟨-, same⟩ | ⟨-, -, same⟩ | ⟨hears, -, same⟩ | ⟨hears, ps, -, same⟩ := s.request_cases lenOk body k
  · rw [same]; exact .refl s
  · rw [same]; exact s.driveZeros_keeps body
  · rw [same]; exact (s.driveZeros_keeps body).trans (State.refuse_keeps _ _ hears.2)
  · rw [same]; exact (s.driveZeros_keeps body).trans (h ps _ hears.2)

theorem State.refuseCode_keeps (s : State) : KeepsAll s s.refuseCode := by
  unfold State.refuseCode
  split
  · exact .refl s
  · split
    · exact s.driveZeros_keeps []
    · rename_i idle
      exact (s.driveZeros_keeps []).trans (State.refuse_keeps _ _ idle)

/-- A RESPONSE frame empties a READY buffer at most. -/
theorem State.fetch_keeps (s : State) (n : Nat) :
    KeepsAll s (s.modPort (fun p => { p with buffer := p.buffer.fetched n, miso := clockOut n p.buffer.bytes })) where
  change := by
    have pending (c : Change) : s.port.buffer.fetched n = .pending c ↔ s.port.buffer = .pending c := by
      unfold Buffer.fetched
      split
      · split <;> simp_all
      · rfl
    simp only [State.ChangePending, State.modPort_transit, State.modPort_port, pending]
    exact id

end Sys2Proof.Machine
end

section
/-! PROOFS. What every step keeps: the request commands, then every command of the table, then the step; and with it the
claims about invariants. -/

namespace Sys2Proof.Machine

/-! ### What the commands' own operations leave of the response buffer -/

theorem State.absorbOrphans_port (s : State) (i : Fin 16) (l : List CaptureWrite) :
    (l.foldl (fun s w => s.absorbOrphan i w.key) s).port = s.port := by
  induction l generalizing s with
  | nil => rfl
  | cons w l ih => exact ih _

theorem State.stopCapture_port (s : State) (i : Fin 16) : (s.stopCapture i).port = s.port := by
  unfold State.stopCapture
  dsimp only [State.modEvals_port, State.modCapture_port]
  rw [State.absorbOrphans_port]
  split
  · rfl
  · split <;> rfl

theorem State.disable_port (s : State) (i : Fin 16) : (s.disable i).port = s.port := by
  unfold State.disable
  dsimp only
  split
  · obtain ⟨notices, same⟩ := State.blindStream_frame
      ((s.modStream i (fun st => { st with cfg := { st.cfg with enabled := false } })).stopCapture i) i 2
    rw [same]
    exact State.stopCapture_port _ i
  · rfl

theorem State.writeStream_port (s : State) (i : Fin 16) (c : StreamConfig) : (s.writeStream i c).port = s.port := by
  unfold State.writeStream State.relearnLens
  dsimp only
  split
  · split <;> rfl
  · rfl

theorem State.makeHold_port (s : State) (cause : Cause) (i : Fin 16) (pre post : Nat) :
    (s.makeHold cause i pre post).port = s.port := by
  unfold State.makeHold
  split
  · rfl
  · dsimp only
    split <;> rfl

theorem State.dumpBegin_buffer (s : State) (d : Dump) : (s.dumpBegin d).port.buffer = s.port.buffer := by
  unfold State.dumpBegin
  split <;> rfl

theorem State.resetBaselineOf_port (s : State) (i : Fin 16) : (s.resetBaselineOf i).port = s.port := by
  unfold State.resetBaselineOf
  dsimp only
  split <;> rfl

theorem State.recomputeHidden_port (s : State) : s.recomputeHidden.port = s.port := by
  rw [State.recomputeHidden_eq]; rfl

/-! ### ENABLE STREAM and DISABLE STREAM (R19, R20) -/

/-- ENABLE STREAM sets a flag and, in ACTIVE, stops the freshness timer with its stream. -/
theorem State.enable_keeps (s : State) (i : Fin 16) : KeepsAll s (s.enable i) := by
  refine s.modStream_keeps i _ { timed := ?_, bounded := ?_, ahead := ?_ }
  · by_cases active : s.transit.mode = .active
    · simp [active, Capture.Timed, Capture.enable]
    · simp [active]
  · exact fun h => h
  · rintro ⟨age, ahead⟩
    by_cases active : s.transit.mode = .active
    · simp [active, Stream.Ahead, Capture.enable, age]
    · simp only [active, if_false]
      exact ⟨age, ahead⟩

theorem State.disable_keeps (s : State) (i : Fin 16) : KeepsAll s (s.disable i) := by
  have cleared : KeepsAll s (s.modStream i (fun st => { st with cfg := { st.cfg with enabled := false } })) :=
    s.modStream_keeps i _ {}
  unfold State.disable
  dsimp only
  split
  · exact (cleared.trans (State.stopCapture_keeps _ i)).trans (State.blindStream_keeps _ i 2)
  · exact cleared

/-! ### The request commands, in a part whose buffer is not PENDING -/

section Commands
variable (ps : List Byte) (s : State) (idle : ∀ c, s.port.buffer ≠ .pending c)
include idle

theorem State.doSetPool_keeps : KeepsAll s (s.doSetPool ps) := by
  unfold State.doSetPool
  dsimp only
  split
  · exact s.refuse_keeps _ idle
  · split
    · exact s.refuse_keeps _ idle
    · exact (s.modPool_keeps _ fun _ => SlotPool.rebuild_exact _ _ _ _).replied rfl idle _ _

theorem State.doSetStream_keeps : KeepsAll s (s.doSetStream ps) := by
  unfold State.doSetStream
  dsimp only
  split
  · split
    · exact s.refuse_keeps _ idle
    · split
      · exact s.refuse_keeps _ idle
      · split
        · exact s.refuse_keeps _ idle
        · exact (s.writeStream_keeps _ _ clamp_le).replied (by rw [s.writeStream_port]) idle _ _
  · exact s.refuse_keeps _ idle

theorem State.enableChecked_keeps (i : Fin 16) : KeepsAll s (s.enableChecked i) := by
  unfold State.enableChecked
  split
  · exact s.reply_keeps _ _ idle
  · exact (s.enable_keeps i).replied rfl idle _ _

theorem State.doEnableStream_keeps : KeepsAll s (s.doEnableStream ps) := by
  unfold State.doEnableStream
  split
  · exact s.refuse_keeps _ idle
  · dsimp only
    split
    · exact s.refuse_keeps _ idle
    · split
      · split
        · exact s.refuse_keeps _ idle
        · split
          · exact s.refuse_keeps _ idle
          · split
            · exact s.refuse_keeps _ idle
            · exact s.enableChecked_keeps idle _
      · exact s.enableChecked_keeps idle _

theorem State.doDisableStream_keeps : KeepsAll s (s.doDisableStream ps) := by
  unfold State.doDisableStream
  split
  · exact s.refuse_keeps _ idle
  · split
    · exact (s.disable_keeps _).replied (by rw [s.disable_port]) idle _ _
    · exact s.reply_keeps _ _ idle

theorem State.doSetScreen_keeps : KeepsAll s (s.doSetScreen ps) := by
  unfold State.doSetScreen
  dsimp only
  split
  · exact s.refuse_keeps _ idle
  · split
    · exact s.refuse_keeps _ idle
    · split
      · exact s.refuse_keeps _ idle
      · exact (s.modScreen_keeps _ _ fun h => ⟨clamp_le, h.2⟩).replied rfl idle _ _

theorem State.doSetLayout_keeps : KeepsAll s (s.doSetLayout ps) := by
  unfold State.doSetLayout
  split
  · rename_i m l _ _
    split
    · exact s.refuse_keeps _ idle
    · split
      · exact s.refuse_keeps _ idle
      · have stored : KeepsAll s { s with comp := { s.comp with layouts := modAt s.comp.layouts m (fun _ => l) } } := {}
        exact stored.replied rfl idle _ _
  · exact s.refuse_keeps _ idle

theorem State.doSelectLayout_keeps : KeepsAll s (s.doSelectLayout ps) := by
  unfold State.doSelectLayout
  split
  · exact (s.modScreen_keeps _ _ (Screen.ahead_of_frame rfl (.inl rfl))).replied rfl idle _ _
  · exact s.refuse_keeps _ idle

theorem State.doSetDoorView_keeps : KeepsAll s (s.doSetDoorView ps) := by
  unfold State.doSetDoorView
  dsimp only
  split
  · exact s.refuse_keeps _ idle
  · exact (s.relines_keeps _ fun h => ⟨clamp_le, h.2⟩).replied (by rw [State.recomputeHidden_port]; rfl) idle _ _

theorem State.doSetReverseView_keeps : KeepsAll s (s.doSetReverseView ps) := by
  unfold State.doSetReverseView
  split
  · exact s.refuse_keeps _ idle
  · exact (s.relines_keeps _ id).replied (by rw [State.recomputeHidden_port]; rfl) idle _ _

theorem State.doSetSoiling_keeps : KeepsAll s (s.doSetSoiling ps) := by
  unfold State.doSetSoiling
  dsimp only
  split
  · exact s.refuse_keeps _ idle
  · exact (s.modEvals_keeps _ id id).replied rfl idle _ _

theorem State.doSetHold_keeps : KeepsAll s (s.doSetHold ps) := (s.modHolds_keeps _ id).replied rfl idle _ _

theorem State.doSetNotice_keeps : KeepsAll s (s.doSetNotice ps) :=
  (s.modNotices_keeps _ (NoticeQueue.setTriggers_keeps _ _ _ _ _ clamp_le)).replied rfl idle _ _

theorem State.doSetNoticeMask_keeps : KeepsAll s (s.doSetNoticeMask ps) := (s.modNotices_keeps _ {}).replied rfl idle _ _

theorem State.doResetBaseline_keeps : KeepsAll s (s.doResetBaseline ps) := by
  unfold State.doResetBaseline
  split
  · exact s.refuse_keeps _ idle
  · exact (s.resetBaselineOf_keeps _).replied (by rw [s.resetBaselineOf_port]) idle _ _

theorem State.doHold_keeps : KeepsAll s (s.doHold ps) := by
  have decided (i : Fin 16) (pre post : Nat) (st : Status) (data : List Byte) :
      KeepsAll s ((s.makeHold .command i pre post).reply st data) :=
    (s.makeHold_keeps .command i pre post).replied (by rw [s.makeHold_port]) idle st data
  unfold State.doHold
  dsimp only
  split
  · exact s.refuse_keeps _ idle
  · split
    · exact s.refuse_keeps _ idle
    · split
      · exact decided _ _ _ _ _
      · exact decided _ _ _ _ _

theorem State.doRelease_keeps : KeepsAll s (s.doRelease ps) := by
  unfold State.doRelease
  split
  · exact s.refuse_keeps _ idle
  · exact (s.releaseGroup_keeps _).replied rfl idle _ _

theorem State.doReview_keeps : KeepsAll s (s.doReview ps) := by
  unfold State.doReview
  dsimp only
  split
  · exact s.refuse_keeps _ idle
  · split
    · exact s.refuse_keeps _ idle
    · exact (s.modHolds_keeps _ id).replied rfl idle _ _

theorem State.doDumpTiles_keeps : KeepsAll s (s.doDumpTiles ps) := by
  unfold State.doDumpTiles
  dsimp only
  split
  · exact s.refuse_keeps _ idle
  · split
    · exact s.refuse_keeps _ idle
    · split
      · exact s.refuse_keeps _ idle
      · split
        · exact s.refuse_keeps _ idle
        · exact (s.dumpBegin_keeps _).replied (s.dumpBegin_buffer _) idle _ _

theorem State.doTakeNotices_keeps : KeepsAll s (s.doTakeNotices ps) :=
  (s.modNotices_keeps _ (NoticeQueue.drop_keeps _ _ _)).replied rfl idle _ _

theorem State.doReadStreamStatus_keeps : KeepsAll s (s.doReadStreamStatus ps) := by
  unfold State.doReadStreamStatus
  split
  · exact s.refuse_keeps _ idle
  · split
    · exact s.refuse_keeps _ idle
    · exact s.reply_keeps _ _ idle

theorem State.doReadScreenStatus_keeps : KeepsAll s (s.doReadScreenStatus ps) := by
  unfold State.doReadScreenStatus
  split
  · exact s.refuse_keeps _ idle
  · exact s.reply_keeps _ _ idle

theorem State.doCommit_keeps : KeepsAll s s.doCommit := by
  unfold State.doCommit
  split
  · exact s.refuse_keeps _ idle
  · split
    · exact s.reply_keeps _ _ idle
    · exact (s.enterDraining_keeps _ (by simp)).settled

theorem State.doReturnToPass_keeps : KeepsAll s s.doReturnToPass := by
  unfold State.doReturnToPass
  split
  · exact s.refuse_keeps _ idle
  · split
    · exact s.refuse_keeps _ idle
    · exact (s.enterDraining_keeps _ (by simp)).settled

end Commands

theorem State.doSoftReset_keeps (s : State) : KeepsAll s s.doSoftReset := (s.enterDraining_keeps .softReset (by simp)).settled

/-! ### Every command -/

/-- What an outcome that goes on leaves. -/
theorem KeepsAll.of_next {s u t : State} {F R : Type} (h : KeepsAll s u)
    (e : (Host.Outcome.next u : Host.Outcome State F R) = .next t) : KeepsAll s t := by
  cases e
  exact h

/-- A command that leaves the state as it is while RESET_N is asserted. -/
theorem KeepsAll.unless {s t : State} (c : Bool) (h : KeepsAll s t) : KeepsAll s (if c then s else t) := by
  cases c
  · exact h
  · exact .refl s

theorem exec_keeps (c : Instr) (s t : State) (e : exec c s = .next t) : KeepsAll s t := by
  cases c with
  | upstreamReadAccepted q =>
    simp only [exec, execUpstreamReadAccepted] at e
    split at e
    · exact (KeepsAll.unless _ (s.offer_keeps _)).of_next e
    · cases e
  | upstreamWriteAccepted q =>
    simp only [exec, execUpstreamWriteAccepted] at e
    split at e
    · exact (KeepsAll.unless _ (s.offer_keeps _)).of_next e
    · cases e
  | writeDataTaken => exact (s.modTransit_keeps _ rfl rfl rfl rfl rfl (takeData_length _)).of_next e
  | answerReturned dir id =>
    cases dir with
    | read => exact (s.returnRead_keeps id).of_next e
    | write => exact (s.returnWrite_keeps id).of_next e
  | downstreamRequestIssued => exact s.issue_keeps.of_next e
  | forwardedReadBeat id beat => exact (s.answerTo_keeps _ _ fun _ => s.matchDown_keeps _ _ _).of_next e
  | forwardedWriteResponse id resp => exact (s.answerTo_keeps _ _ fun _ => s.matchDown_keeps _ _ _).of_next e
  | steeredWriteResponse id resp => exact (s.answerTo_keeps _ _ fun _ => s.matchDown_keeps _ _ _).of_next e
  | captureReadBeat id beat => exact (s.answerTo_keeps _ _ fun _ => s.matchDown_keeps _ _ _).of_next e
  | reviewReadBeat id beat => exact (s.answerTo_keeps _ _ fun _ => s.matchDown_keeps _ _ _).of_next e
  | gatherReadBeat n beat => exact (s.answerTo_keeps _ _ fun _ => s.matchDown_keeps _ _ _).of_next e
  | dumpWriteResponse n resp => exact (s.answerTo_keeps _ _ fun _ => s.matchDown_keeps _ _ _).of_next e
  | resetNAsserted => exact s.assertReset_keeps.of_next e
  | resetNReleased =>
    simp only [exec, execResetNReleased] at e
    split at e
    · exact s.released_keeps.of_next e
    · exact (KeepsAll.refl s).of_next e
  | partTimeStep levels order => exact (KeepsAll.unless _ (s.tick_keeps levels order)).of_next e
  | freshnessTimerExpiry i => exact (s.takeFreshness_keeps i).of_next e
  | evaluationCompletion => exact s.completeEvaluation_keeps.of_next e
  | screenFrameTimerExpiry c => exact (s.takeFrame_keeps c).of_next e
  | lingerTimerExpiry x => exact (s.takeLinger_keeps x).of_next e
  | noticeLingerExpiry => exact s.takeNoticeLinger_keeps.of_next e
  | response n =>
    simp only [exec, execResponse] at e
    split at e
    · cases e
    · exact (KeepsAll.unless _ (s.fetch_keeps n)).of_next e
  | emptyFrame => exact (KeepsAll.refl s).of_next e
  | unknownCommand code =>
    simp only [exec, execUnknownCommand] at e
    split at e
    · cases e
    · exact s.refuseCode_keeps.of_next e
  | setPool body => exact (s.request_keeps _ _ _ fun ps u h => u.doSetPool_keeps ps h).of_next e
  | setStream body => exact (s.request_keeps _ _ _ fun ps u h => u.doSetStream_keeps ps h).of_next e
  | enableStream body => exact (s.request_keeps _ _ _ fun ps u h => u.doEnableStream_keeps ps h).of_next e
  | disableStream body => exact (s.request_keeps _ _ _ fun ps u h => u.doDisableStream_keeps ps h).of_next e
  | setScreen body => exact (s.request_keeps _ _ _ fun ps u h => u.doSetScreen_keeps ps h).of_next e
  | setLayout body => exact (s.request_keeps _ _ _ fun ps u h => u.doSetLayout_keeps ps h).of_next e
  | selectLayout body => exact (s.request_keeps _ _ _ fun ps u h => u.doSelectLayout_keeps ps h).of_next e
  | setDoorView body => exact (s.request_keeps _ _ _ fun ps u h => u.doSetDoorView_keeps ps h).of_next e
  | setReverseView body => exact (s.request_keeps _ _ _ fun ps u h => u.doSetReverseView_keeps ps h).of_next e
  | setSoiling body => exact (s.request_keeps _ _ _ fun ps u h => u.doSetSoiling_keeps ps h).of_next e
  | setHold body => exact (s.request_keeps _ _ _ fun ps u h => u.doSetHold_keeps ps h).of_next e
  | setNotice body => exact (s.request_keeps _ _ _ fun ps u h => u.doSetNotice_keeps ps h).of_next e
  | setNoticeMask body => exact (s.request_keeps _ _ _ fun ps u h => u.doSetNoticeMask_keeps ps h).of_next e
  | commit body => exact (s.request_keeps _ _ _ fun _ u h => u.doCommit_keeps h).of_next e
  | returnToPass body => exact (s.request_keeps _ _ _ fun _ u h => u.doReturnToPass_keeps h).of_next e
  | softReset body => exact (s.request_keeps _ _ _ fun _ u _ => u.doSoftReset_keeps).of_next e
  | resetBaseline body => exact (s.request_keeps _ _ _ fun ps u h => u.doResetBaseline_keeps ps h).of_next e
  | hold body => exact (s.request_keeps _ _ _ fun ps u h => u.doHold_keeps ps h).of_next e
  | release body => exact (s.request_keeps _ _ _ fun ps u h => u.doRelease_keeps ps h).of_next e
  | review body => exact (s.request_keeps _ _ _ fun ps u h => u.doReview_keeps ps h).of_next e
  | dumpTiles body => exact (s.request_keeps _ _ _ fun ps u h => u.doDumpTiles_keeps ps h).of_next e
  | takeNotices body => exact (s.request_keeps _ _ _ fun ps u h => u.doTakeNotices_keeps ps h).of_next e
  | noticeLevel body => exact (s.request_keeps _ _ _ fun _ u h => u.reply_keeps _ _ h).of_next e
  | readStreamStatus body => exact (s.request_keeps _ _ _ fun ps u h => u.doReadStreamStatus_keeps ps h).of_next e
  | readScreenStatus body => exact (s.request_keeps _ _ _ fun ps u h => u.doReadScreenStatus_keeps ps h).of_next e
  | readHolds body => exact (s.request_keeps _ _ _ fun _ u h => u.reply_keeps _ _ h).of_next e
  | readLines body => exact (s.request_keeps _ _ _ fun _ u h => u.reply_keeps _ _ h).of_next e
  | readPart body => exact (s.request_keeps _ _ _ fun _ u h => u.reply_keeps _ _ h).of_next e

/-! ### The step -/

/-- A step is the front command's, on a state that differs in the queue of commands alone. -/
theorem step_keeps (s t : State) (e : step s = .next t) : ∃ rest, KeepsAll { s with pending := rest } t := by
  unfold step at e
  split at e
  · cases e
    exact ⟨s.pending, .refl s⟩
  · rename_i c rest _
    exact ⟨rest, exec_keeps c _ t e⟩

/-- Settles O1: the two branches of `step`. -/
theorem stepRunsTheFrontCommand : Obligations.StepRunsTheFrontCommand := by
  refine fun s => ⟨fun empty => ?_, fun c rest front => ?_⟩
  · simp only [step, empty]
  · simp only [step, front]

/-- Settles O52: every command keeps the limits and the map; a read is accepted at fewer than 32 only, and the map changes at
a drain completion only. -/
theorem stepsKeepTheLimitsAndTheMap : Obligations.StepsKeepTheLimitsAndTheMap := by
  refine ⟨fun s t h e => ?_, fun s t h e => ?_⟩ <;> obtain ⟨rest, keeps⟩ := step_keeps s t e
  · exact keeps.inFlight h
  · exact keeps.map h

/-- Settles O53: only a mode command enters DRAINING, and what empties the traffic examines the drain. -/
theorem stepsKeepDrainConsistent : Obligations.StepsKeepDrainConsistent := fun s t h e =>
  let ⟨_, keeps⟩ := step_keeps s t e
  keeps.drain h

/-- Settles O54: slot records change by `SlotPool.update` alone, whose free list follows, or all at once. -/
theorem stepsKeepFreeListExact : Obligations.StepsKeepFreeListExact := fun s t h e =>
  let ⟨_, keeps⟩ := step_keeps s t e
  keeps.freeList h

/-- Settles O55: freshness and its timer move together, and the idle engine begins what is queued. -/
theorem stepsKeepFreshnessAndTheQueue : Obligations.StepsKeepFreshnessAndTheQueue := by
  refine ⟨fun s t h e => ?_, fun s t h e => ?_⟩ <;> obtain ⟨rest, keeps⟩ := step_keeps s t e
  · exact keeps.freshness h
  · exact keeps.queue h

/-- Settles O56: gradients of byte lumas bound B, E and Q; fewer than 8 learned tiles judge no lens. -/
theorem stepsKeepTheBaselineLaws : Obligations.StepsKeepTheBaselineLaws := by
  refine ⟨fun s t h e => ?_, fun s t h e => ?_⟩ <;> obtain ⟨rest, keeps⟩ := step_keeps s t e
  · exact keeps.energies h
  · exact keeps.lens h

/-- Settles O57: the flag is recomputed where lines, sides or settings move; a hold takes a free id and what fits in 8. -/
theorem stepsKeepTheHiddenFlagAndTheHolds : Obligations.StepsKeepTheHiddenFlagAndTheHolds := by
  refine ⟨fun s t h e => ?_, fun s t h e => ?_⟩ <;> obtain ⟨rest, keeps⟩ := step_keeps s t e
  · exact keeps.hidden h
  · exact keeps.holds h

/-- Settles O58: a record is added only behind one that it cannot be merged into, and the line is driven with the queue. -/
theorem stepsKeepTheNoticeLaws : Obligations.StepsKeepTheNoticeLaws := by
  refine ⟨fun s t h e => ?_, fun s t h e => ?_⟩ <;> obtain ⟨rest, keeps⟩ := step_keeps s t e
  · exact keeps.coalesced h
  · exact keeps.ntf h

/-- Settles O59: timers are started from the present value with limited lengths, and part time leaves no value at which one
expires. -/
theorem stepsKeepTheTimersAhead : Obligations.StepsKeepTheTimersAhead := fun s t h e =>
  let ⟨_, keeps⟩ := step_keeps s t e
  keeps.timers h

/-! ### Which terms are taken -/

/-- A term that is an event goes on. -/
theorem exec_of_wf (c : Instr) (s : State) (h : c.wf = true) : ∃ t, exec c s = .next t := by
  cases c with
  | upstreamReadAccepted q => exact ⟨_, if_pos h⟩
  | upstreamWriteAccepted q => exact ⟨_, if_pos h⟩
  | response n => exact ⟨_, if_neg (by simp [Instr.wf] at h; omega)⟩
  | unknownCommand code => exact ⟨_, if_neg (by simpa [Instr.wf] using h)⟩
  | answerReturned dir id => cases dir <;> exact ⟨_, rfl⟩
  | _ => exact ⟨_, rfl⟩

/-- A term that is no event is one of four, and is refused. -/
theorem exec_of_not_wf (c : Instr) (s : State) (h : c.wf = false) : ∃ r, exec c s = .refused r := by
  cases c with
  | upstreamReadAccepted q => exact ⟨_, if_neg (by rw [show q.wf = false from h]; simp)⟩
  | upstreamWriteAccepted q => exact ⟨_, if_neg (by rw [show q.wf = false from h]; simp)⟩
  | response n => exact ⟨_, if_pos (by simp [Instr.wf] at h; exact h)⟩
  | unknownCommand code => exact ⟨_, if_pos (by simpa [Instr.wf] using h)⟩
  | _ => cases h

/-- Settles O2: the four terms that can be ill-formed are tested first, and no command touches the queue of commands. -/
theorem everyEventIsTaken : Obligations.EveryEventIsTaken := by
  refine fun c s => ⟨fun h => ?_, exec_of_not_wf c s⟩
  obtain ⟨t, taken⟩ := exec_of_wf c s h
  exact ⟨t, taken, (exec_keeps c s t taken).pending⟩

end Sys2Proof.Machine
end

section
/-! PROOFS. The upstream and the downstream port: where an accepted request goes, what is refused, and which transaction a
downstream answer belongs to. -/

namespace Sys2Proof.Machine

/-! ### Acceptance at the upstream port (R2, R13) -/

/-- A read that is admitted is decoded at once. -/
theorem exec_read_of_admits {s : State} {q : ReadReq} (wf : q.wf = true) (admitted : s.admits .read) :
    exec (.upstreamReadAccepted q) s = .next (s.acceptRead q) := by
  obtain ⟨out, mode, clear, room⟩ := admitted
  have nobody : s.transit.waiting.any (fun x => decide (x.dir = (PortReq.read q).dir)) = false :=
    List.any_eq_false.2 fun x hx => by rw [decide_eq_true_eq]; exact clear x hx
  have can : s.canAccept (.read q) = true := by simpa [State.canAccept] using ⟨mode, room⟩
  simp only [exec, execUpstreamReadAccepted, wf, if_true, out, Bool.false_eq_true, if_false, State.offer, can, nobody,
    Bool.not_false, Bool.and_self]

/-- A write that is admitted is decoded at once. -/
theorem exec_write_of_admits {s : State} {q : WriteReq} (wf : q.wf = true) (admitted : s.admits .write) :
    exec (.upstreamWriteAccepted q) s = .next (s.acceptWrite q) := by
  obtain ⟨out, mode, clear, room⟩ := admitted
  have nobody : s.transit.waiting.any (fun x => decide (x.dir = (PortReq.write q).dir)) = false :=
    List.any_eq_false.2 fun x hx => by rw [decide_eq_true_eq]; exact clear x hx
  have can : s.canAccept (.write q) = true := by simpa [State.canAccept] using ⟨mode, room⟩
  simp only [exec, execUpstreamWriteAccepted, wf, if_true, out, Bool.false_eq_true, if_false, State.offer, can, nobody,
    Bool.not_false, Bool.and_self]

/-- A request that cannot be accepted waits behind the others. -/
theorem State.offer_of_not_canAccept {s : State} {r : PortReq} (h : s.canAccept r = false) :
    s.offer r = { s with transit := { s.transit with waiting := s.transit.waiting ++ [r] } } := by
  obtain ⟨can, -⟩ | waits := s.offer_cases r
  · rw [h] at can; cases can
  · exact waits

/-- A read that is PLAIN, or comes in PASS, is forwarded. -/
theorem State.acceptRead_plain {s : State} {q : ReadReq} (plain : s.transit.mode = .pass
    ∨ decodeAccess s.transit.windows s.pool.size q.addr.toNat q.burst q.beats = .plain) : s.acceptRead q = s.forwardRead q := by
  unfold State.acceptRead
  split
  · rename_i active
    rw [plain.resolve_left (by simp [active])]
  · rfl

/-- A write that is PLAIN, or comes in PASS, is forwarded. -/
theorem State.acceptWrite_plain {s : State} {q : WriteReq} (plain : s.transit.mode = .pass
    ∨ decodeAccess s.transit.windows s.pool.size q.addr.toNat q.burst q.beats.length = .plain) :
    s.acceptWrite q = s.forwardWrite q := by
  unfold State.acceptWrite
  split
  · rename_i active
    rw [plain.resolve_left (by simp [active])]
  · rfl

/-- Settles O3: an admitted request is decoded at once and forwarded when PLAIN; another is put behind those that wait. -/
theorem plainRequestsAreForwardedOrWait : Obligations.PlainRequestsAreForwardedOrWait := by
  refine ⟨⟨fun s q wf admitted plain => ?_, fun s q wf admitted plain => ?_⟩,
    fun s out => ⟨fun q wf full => ?_, fun q wf full => ?_⟩⟩
  · rw [exec_read_of_admits wf admitted, State.acceptRead_plain plain]; rfl
  · rw [exec_write_of_admits wf admitted, State.acceptWrite_plain plain]; rfl
  · have full' : s.canAccept (.read q) = false := by
      obtain draining | full := full
      · simp [State.canAccept, draining]
      · simp [State.canAccept, full]
    simp only [exec, execUpstreamReadAccepted, wf, if_true, out, Bool.false_eq_true, if_false,
      State.offer_of_not_canAccept full']
  · have full' : s.canAccept (.write q) = false := by
      obtain draining | full := full
      · simp [State.canAccept, draining]
      · simp [State.canAccept, full]
    simp only [exec, execUpstreamWriteAccepted, wf, if_true, out, Bool.false_eq_true, if_false,
      State.offer_of_not_canAccept full']

/-! ### The decode tests (R7 to R10) -/

/-- A transaction of at least one beat covers its start address. -/
theorem covered_nonempty (a : Nat) (burst : Burst) {beats : Nat} (h : 1 ≤ beats) :
    (covered a burst beats).1 < (covered a burst beats).2 := by
  cases burst <;> simp only [covered] <;> omega

/-- Every covered byte lies in a window exactly when the first and the last do. -/
theorem staysInRegion_some {ws : List Window} {w : Window} {c : Nat × Nat} (h : c.1 < c.2) :
    staysInRegion ws (some w) c = false ↔ ∃ b, c.1 ≤ b ∧ b < c.2 ∧ ¬(w.base ≤ b ∧ b < w.base + w.extent) := by
  rw [staysInRegion, decide_eq_false_iff_not, Window.stop]
  constructor
  · intro out
    by_cases low : w.base ≤ c.1
    · exact ⟨c.2 - 1, by omega, by omega, by omega⟩
    · exact ⟨c.1, by omega, by omega, by omega⟩
  · rintro ⟨b, hb⟩
    omega

/-- Outside every window a transaction leaves its region by a byte of a window or one above FFFFFFFFF. -/
theorem staysInRegion_none {ws : List Window} {c : Nat × Nat} (h : c.1 < c.2) :
    staysInRegion ws none c = false ↔ ∃ b, c.1 ≤ b ∧ b < c.2
      ∧ (68719476735 < b ∨ ∃ w ∈ ws, w.base ≤ b ∧ b < w.base + w.extent) := by
  simp only [staysInRegion, Bool.and_eq_false_iff, decide_eq_false_iff_not, Bool.not_eq_false', List.any_eq_true,
    Window.meets_iff, Config.addrEnd]
  constructor
  · rintro (high | ⟨w, hw, b, hb⟩)
    · exact ⟨c.2 - 1, by omega, by omega, .inl (by omega)⟩
    · exact ⟨b, by omega, by omega, .inr ⟨w, hw, by omega⟩⟩
  · rintro ⟨b, low, high, far | ⟨w, hw, inside⟩⟩
    · exact .inl (by omega)
    · exact .inr ⟨w, hw, b, by omega⟩

/-- Where an access goes that stays in its region. -/
theorem decodeAccess_of_stays {ws : List Window} {size a beats : Nat} {burst : Burst}
    (stays : staysInRegion ws (regionOf ws a) (covered a burst beats) = true) :
    decodeAccess ws size a burst beats = match regionOf ws a with
      | none => .plain
      | some w =>
        if w.kind = .pool then .guardHit ((a - w.base) / size)
        else if burst = .wrapping ∨ a % 16 ≠ 0 then .refused
        else match w.kind with
          | .capture i => .capture i (a - w.base)
          | .screen c => .screen c (a - w.base)
          | .review => .review (a - w.base)
          | .pool => .refused := by
  unfold decodeAccess
  simp only [stays, Bool.not_true, Bool.false_eq_true, if_false]
  cases regionOf ws a with
  | none => rfl
  | some w => cases hk : w.kind <;> simp [hk]

/-- Only an access that leaves the region of its start address is a split access. -/
theorem decodeAccess_eq_split {ws : List Window} {size a beats : Nat} {burst : Burst} :
    decodeAccess ws size a burst beats = .split ↔ staysInRegion ws (regionOf ws a) (covered a burst beats) = false := by
  cases stays : staysInRegion ws (regionOf ws a) (covered a burst beats) with
  | false => simp [decodeAccess, stays]
  | true =>
    rw [decodeAccess_of_stays stays]
    cases regionOf ws a with
    | none => simp
    | some w =>
      simp only []
      split
      · simp
      · split
        · simp
        · cases w.kind <;> simp

theorem Window.holds_iff (w : Window) (a : Nat) : w.holds a = true ↔ w.base ≤ a ∧ a < w.base + w.extent :=
  decide_eq_true_iff

/-- The region of an address is the first window that holds it (R7). -/
theorem regionOf_eq_some {ws : List Window} {a : Nat} {w : Window} : regionOf ws a = some w ↔
    ∃ pre post, ws = pre ++ w :: post ∧ w.base ≤ a ∧ a < w.base + w.extent
      ∧ ∀ v ∈ pre, ¬(v.base ≤ a ∧ a < v.base + v.extent) := by
  simp only [regionOf, List.find?_eq_some_iff_append, ← Window.holds_iff, Bool.not_eq_true, Bool.not_eq_true']
  constructor
  · rintro ⟨holds, pre, post, rfl, before⟩
    obtain ⟨low, high⟩ := (w.holds_iff a).1 holds
    exact ⟨pre, post, rfl, low, high, before⟩
  · rintro ⟨pre, post, rfl, low, high, before⟩
    exact ⟨(w.holds_iff a).2 ⟨low, high⟩, pre, post, rfl, before⟩

theorem regionOf_eq_none {ws : List Window} {a : Nat} :
    regionOf ws a = none ↔ ∀ w ∈ ws, ¬(w.base ≤ a ∧ a < w.base + w.extent) := by
  simp only [regionOf, List.find?_eq_none, Window.holds_iff]

/-- Settles O4: what stays in its region, byte by byte, and then the windows of R7 to R10 by their kind. -/
theorem decodeTestsAreByteExact : Obligations.DecodeTestsAreByteExact := by
  intro ws size a beats burst some_
  have nonempty := covered_nonempty a burst some_
  refine ⟨?_, fun whole => ?_, ?_, ?_, fun w => regionOf_eq_some, regionOf_eq_none⟩
  · rw [decodeAccess_eq_split]
    cases regionOf ws a with
    | none => exact staysInRegion_none nonempty
    | some w => exact staysInRegion_some nonempty
  · have stays : staysInRegion ws (regionOf ws a) (covered a burst beats) = true := by
      rwa [ne_eq, decodeAccess_eq_split, Bool.not_eq_false] at whole
    have goes := decodeAccess_of_stays (size := size) stays
    cases region : regionOf ws a with
    | none => rw [goes, region]
    | some w =>
      rw [region] at goes
      simp only at goes ⊢
      split at goes
      · rename_i pool
        rwa [if_pos pool]
      · rename_i pool
        rw [if_neg pool, goes]
        refine ⟨?_, fun straight aligned o offset => ?_⟩
        · split
          · rename_i bad
            simp [bad]
          · rename_i good
            simp only [good, iff_false]
            cases hk : w.kind with
            | pool => exact absurd hk pool
            | _ => simp
        · rw [if_neg (by simp [straight, aligned]), offset]
          exact ⟨fun i hk => by rw [hk], fun c hk => by rw [hk], fun hk => by rw [hk]⟩
  · rintro rfl
    simp only [covered, Prod.mk.injEq, true_and]
    omega
  · rintro rfl
    have start := Nat.div_add_mod a (16 * beats)
    have below := Nat.mod_lt a (show 0 < 16 * beats by omega)
    rw [Nat.mul_comm] at start
    simp only [covered]
    exact ⟨Nat.mul_mod_left _ _, by omega, by omega, trivial⟩

/-! ### Refused requests (R10, R105) -/

/-- In ACTIVE a read goes where its decode says. -/
theorem State.acceptRead_active {s : State} {q : ReadReq} (active : s.transit.mode = .active) :
    s.acceptRead q = match decodeAccess s.transit.windows s.pool.size q.addr.toNat q.burst q.beats with
      | .split => (s.notify .splitAccess 0 q.id.toNat).answerRead q .error
      | .guardHit n => (s.notify .guardHit 0 n).answerRead q .error
      | .refused => s.answerRead q .error
      | .plain => s.forwardRead q
      | .capture i offset => s.readCapture i q offset
      | .screen c offset => s.readScreen c q offset
      | .review offset => s.readReview q offset := by
  unfold State.acceptRead
  exact (if_pos active).trans rfl

/-- In ACTIVE a write goes where its decode says. -/
theorem State.acceptWrite_active {s : State} {q : WriteReq} (active : s.transit.mode = .active) :
    s.acceptWrite q = match decodeAccess s.transit.windows s.pool.size q.addr.toNat q.burst q.beats.length with
      | .split => (s.notify .splitAccess 0 q.id.toNat).refuseWrite q
      | .guardHit n => (s.notify .guardHit 0 n).refuseWrite q
      | .refused => s.refuseWrite q
      | .plain => s.forwardWrite q
      | .capture i offset => s.writeCapture i q offset
      | .screen _ _ => s.refuseWrite q
      | .review _ => s.refuseWrite q := by
  unfold State.acceptWrite
  exact (if_pos active).trans rfl

/-- Settles O5: an admitted request that decodes to a refusal is answered by the part, with the notice of its cause. -/
theorem refusedRequestsAreAnsweredError : Obligations.RefusedRequestsAreAnsweredError := by
  refine ⟨fun s q wf admitted active notices told => ?_, fun s q wf admitted active notices told => ?_⟩
  · rw [exec_read_of_admits wf admitted]
    generalize decoded : decodeAccess s.transit.windows s.pool.size q.addr.toNat q.burst q.beats = d at told
    rw [State.acceptRead_active active, decoded]
    cases d with
    | split | guardHit n | refused => subst told; rfl
    | _ => exact told.elim
  · rw [exec_write_of_admits wf admitted]
    generalize decoded : decodeAccess s.transit.windows s.pool.size q.addr.toNat q.burst q.beats.length = d at told
    rw [State.acceptWrite_active active, decoded]
    cases d with
    | split | guardHit n | refused | screen c offset | review offset => subst told; rfl
    | _ => exact told.elim

/-! ### Downstream answers (R4, R11) -/

/-- An answer for the oldest issued request of which p holds. -/
theorem State.matchDown_append {s : State} {p : DownReq → Bool} {pre post : List DownReq} {r : DownReq} (beat : ReadBeat)
    (issued : s.transit.downIssued = pre ++ r :: post) (before : ∀ y ∈ pre, p y = false) (own : p r = true) :
    s.matchDown p 0 beat = ({ s with transit := { s.transit with
      downIssued := pre ++ (if r.left ≤ 1 then post else { r with left := r.left - 1 } :: post) } } : State).answered
        r.owner beat := by
  unfold State.matchDown
  rw [issued, answerDown_append p pre r post before own]
  rfl

/-- Fewer issued requests than the place named: no transaction is matched. -/
theorem answerDown_of_few (p : DownReq → Bool) (n : Nat) (l : List DownReq) (h : (l.filter p).length ≤ n) :
    answerDown p n l = none := by
  induction l generalizing n with
  | nil => simp [answerDown]
  | cons r rs ih =>
    cases own : p r with
    | false =>
      rw [List.filter_cons_of_neg (by simp [own])] at h
      simp [answerDown, own, ih n h]
    | true =>
      rw [List.filter_cons_of_pos own, List.length_cons] at h
      obtain ⟨m, rfl⟩ : ∃ m, n = m + 1 := ⟨n - 1, by omega⟩
      simp [answerDown, own, ih m (by omega)]

/-- An answer that matches no issued transaction changes nothing. -/
theorem State.matchDown_none {s : State} {p : DownReq → Bool} {n : Nat} (beat : ReadBeat)
    (h : answerDown p n s.transit.downIssued = none) : s.matchDown p n beat = s := by
  unfold State.matchDown
  rw [h]

/-- Settles O7: `issue` takes the head, `answerDown` the oldest request of the kind and id, and `answered` the transaction
its owner names. -/
theorem downstreamPortMatchesAnswers : Obligations.DownstreamPortMatchesAnswers := by
  refine ⟨fun s r rest waiting => ?_, fun s id beat key pre post r issued before owner same => ?_,
    fun s id resp key pre post r issued before owner same last => ?_, fun s id beat resp n => ?_⟩
  · simp [exec, execDownstreamRequestIssued, State.modTransit, Transit.issue, waiting]
  · refine congrArg Host.Outcome.next ((State.matchDown_append beat issued before ?_).trans ?_)
    · simp [DownReq.isForwardedRead, owner, same]
    · rw [owner]; rfl
  · refine congrArg Host.Outcome.next ((State.matchDown_append _ issued before ?_).trans ?_)
    · simp [DownReq.isForwardedWrite, owner, same]
    · rw [owner, if_pos (by omega)]; rfl
  · have unmatched (p : DownReq → Bool) (b : ReadBeat) (h : ∀ y ∈ s.transit.downIssued, p y = false) :
        s.matchDown p 0 b = s := State.matchDown_none b (answerDown_none p 0 _ h)
    have absent (p : DownReq → Bool) (b : ReadBeat) (h : (s.transit.downIssued.filter p).length ≤ n) :
        s.matchDown p n b = s := State.matchDown_none b (answerDown_of_few p n _ h)
    exact ⟨fun h => congrArg _ (unmatched _ _ h), fun h => congrArg _ (unmatched _ _ h),
      fun h => congrArg _ (unmatched _ _ h), fun h => congrArg _ (unmatched _ _ h), fun h => congrArg _ (unmatched _ _ h),
      fun h => congrArg _ (absent _ _ h), fun h => congrArg _ (absent _ _ h)⟩

/-! ### Reads served from a slot (R56, R57, R157) -/

/-- A change of the one entry with a key changes that entry and no other. -/
theorem map_of_unique_key {α : Type} (key : α → Nat) (f : α → α) {pre post : List α} {x : α}
    (unique : ∀ y ∈ pre ++ post, key y ≠ key x) :
    (pre ++ x :: post).map (fun y => if key y = key x then f y else y) = pre ++ f x :: post := by
  have same (l : List α) (h : ∀ y ∈ l, key y ≠ key x) : l.map (fun y => if key y = key x then f y else y) = l :=
    (List.map_congr_left fun y hy => if_neg (h y hy)).trans (List.map_id l)
  rw [List.map_append, List.map_cons, if_pos rfl, same pre fun y hy => unique y (by simp [hy]),
    same post fun y hy => unique y (by simp [hy])]

/-- Settles O8: the slot is looked up at acceptance, and each beat is judged by its place in the frame. -/
theorem slotReadsAreServedFromTheirSlot : Obligations.SlotReadsAreServedFromTheirSlot := by
  refine ⟨⟨fun s q i o wf admitted active decoded => ?_, fun s q o wf admitted active decoded => ?_⟩,
    fun s id beat o size pre post r rpre rpost x issued same reads unique t ht => ⟨fun owner before service => ?_,
      fun owner before service => ?_⟩⟩
  · rw [exec_read_of_admits wf admitted, State.acceptRead_active active, decoded]
    refine congrArg Host.Outcome.next ?_
    simp only [State.readCapture]
    cases s.pool.currentOf i with
    | none => rfl
    | some c => simp only []; split <;> rfl
  · rw [exec_read_of_admits wf admitted, State.acceptRead_active active, decoded]
    refine congrArg Host.Outcome.next ?_
    simp only [State.readReview]
    cases s.holds.mapping with
    | none => rfl
    | some m => simp only []; split <;> rfl
  · obtain ⟨c, service⟩ := service
    refine congrArg Host.Outcome.next ((State.matchDown_append beat issued before ?_).trans ?_)
    · simp [DownReq.isCapture, owner, same]
    · rw [ht, owner]
      simp only [State.answered, State.modTransit, Transit.modRead, reads]
      rw [map_of_unique_key ReadTxn.key (fun y => y.addSlotBeat beat) unique]
      simp only [ReadTxn.addSlotBeat, service, ReadTxn.addBeat]
  · obtain ⟨m, n, a, service⟩ := service
    refine congrArg Host.Outcome.next ((State.matchDown_append beat issued before ?_).trans ?_)
    · simp [DownReq.isReview, owner, same]
    · rw [ht, owner]
      simp only [State.answered, State.modTransit, Transit.modRead, reads]
      rw [map_of_unique_key ReadTxn.key (fun y => y.addSlotBeat beat) unique]
      simp only [ReadTxn.addSlotBeat, service, ReadTxn.addBeat]

end Sys2Proof.Machine
end

section
/-! PROOFS. Drain completion: what the three mode changes leave, written out; and the return of answers, with the drain it
ends and the requests it lets in. -/

namespace Sys2Proof.Machine

/-! ### Closing frames before the pool is emptied (R60, R118) -/

/-- Emptying a pool forgets every change of a record that leaves its owner. -/
theorem SlotPool.emptied_update (p : SlotPool) (n : Nat) (f : Slot → Slot) (owner : ∀ x, (f x).emptied = x.emptied) :
    (p.update n f).emptied = p.emptied := by
  have slots : (p.update n f).slots.map Slot.emptied = p.slots.map Slot.emptied := by
    refine List.ext_getElem? fun m => ?_
    rw [List.getElem?_map, List.getElem?_map, p.update_slots]
    split
    · cases p.slots[m]? with
      | none => rfl
      | some x => simp [owner]
    · rfl
  obtain ⟨isSet, base, review, size, count, -⟩ := p.update_frame n f
  simp only [SlotPool.emptied, SlotPool.allNumbers, slots, isSet, base, review, size, count, SlotPool.update_length]

theorem SlotPool.emptied_unpinAll (p : SlotPool) (l : List Nat) : (p.unpinAll l).emptied = p.emptied := by
  unfold SlotPool.unpinAll
  induction l generalizing p with
  | nil => rfl
  | cons n l ih => exact (ih _).trans (p.emptied_update n Slot.unpin fun _ => rfl)

/-- Closing a frame is forgotten by what empties the pool and clears the screens. -/
theorem State.closeAnyFrame_cleared (s : State) (c : Fin 2) : (s.closeAnyFrame c).pool.emptied = s.pool.emptied
    ∧ mapAll Screen.modeChange (s.closeAnyFrame c).comp.screens = mapAll Screen.modeChange s.comp.screens
    ∧ (s.closeAnyFrame c).comp.layouts = s.comp.layouts := by
  unfold State.closeAnyFrame
  split
  · exact ⟨rfl, rfl, rfl⟩
  · rename_i f _
    refine ⟨s.pool.emptied_unpinAll f.slots, Vector.ext fun d hd => ?_, rfl⟩
    have each := fun v : Vector Screen 2 => mapAll_get Screen.modeChange v ⟨d, hd⟩
    simp only [Fin.getElem_fin] at each
    rw [each, each]
    show ((s.closeFrame c f).screen ⟨d, hd⟩).modeChange = (s.screen ⟨d, hd⟩).modeChange
    rw [State.closeFrame_screen]
    split <;> rfl

/-- Both frames closed: only the pool and the screens have changed, in what is cleared afterwards. -/
theorem State.closeFrames_cleared (s : State) : ∃ pool screens,
    (s.closeAnyFrame 0).closeAnyFrame 1 = { s with pool := pool, comp := { s.comp with screens := screens } }
      ∧ pool.emptied = s.pool.emptied ∧ mapAll Screen.modeChange screens = mapAll Screen.modeChange s.comp.screens := by
  obtain ⟨pool0, comp0, closed0⟩ := s.closeAnyFrame_frame 0
  obtain ⟨empty0, screens0, layouts0⟩ := s.closeAnyFrame_cleared 0
  obtain ⟨pool1, ⟨screens, layouts⟩, closed1⟩ := (s.closeAnyFrame 0).closeAnyFrame_frame 1
  obtain ⟨empty1, screens1, layouts1⟩ := (s.closeAnyFrame 0).closeAnyFrame_cleared 1
  rw [closed1] at empty1 screens1 layouts1
  obtain rfl : layouts = s.comp.layouts := layouts1.trans layouts0
  refine ⟨pool1, screens, ?_, empty1.trans empty0, screens1.trans screens0⟩
  rw [closed1, closed0]

theorem mapAll_softReset (v : Vector Screen 2) : mapAll Screen.softReset v
    = mapAll (fun x => { x with latches := 0, restarts := 0, timeouts := 0, unlatchedReads := 0, faults := 0 })
      (mapAll Screen.modeChange v) := by
  simp [mapAll, Screen.softReset, Function.comp_def]

/-! ### The three completions (R15) -/

theorem State.completeCommit_eq (s : State) : s.completeCommit = (({ s with
    streams := mapAll Stream.modeChange s.streams
    pool := s.pool.committed s.streams
    evals := { s.evals with queue := [] }
    comp := { s.comp with screens := mapAll Screen.modeChange s.comp.screens } } : State).withLines s.lines).finishDrain
      .active s.buildWindows := by
  unfold State.completeCommit
  simp only [State.recomputeHidden_eq]

/-- The notices of the groups that a RETURN TO PASS discards, oldest first (R161). -/
def State.discardNotices (s : State) : NoticeQueue :=
  s.holds.groups.foldl (fun q g => q.take s.time .holdReleased g.id (768 + g.slots.length)) s.notices

theorem State.completeReturn_eq (s : State) : s.completeReturn = (({ s with
    streams := mapAll Stream.modeChange s.streams
    pool := s.pool.emptied
    evals := { s.evals with queue := [] }
    comp := { s.comp with screens := mapAll Screen.modeChange s.comp.screens }
    holds := { s.holds with groups := [], mapping := none }
    notices := s.discardNotices } : State).withLines s.lines).finishDrain .pass [] := by
  obtain ⟨pool, screens, closed, empty, cleared⟩ := s.closeFrames_cleared
  unfold State.completeReturn
  simp only [closed, State.discardGroups_eq, State.recomputeHidden_eq, empty, cleared]
  rfl

theorem State.completeSoftReset_eq (s : State) : s.completeSoftReset = { s with
    transit := { s.dumpAbandon.transit with mode := .pass, change := .none, windows := [] }
    port := { s.port with buffer := .ready .done [], dump := none }
    streams := mapAll Stream.softReset s.streams
    pool := s.pool.emptied
    evals := { s.evals with queue := [], current := none }
    comp := { s.comp with screens := mapAll Screen.softReset s.comp.screens }
    lines := s.lines.softReset
    holds := s.holds.softReset
    notices := s.notices.clear
    time := 0 } := by
  obtain ⟨pool, screens, closed, empty, cleared⟩ := s.closeFrames_cleared
  unfold State.completeSoftReset
  simp only [closed, State.dumpAbandon, State.finishDrain, mapAll_softReset, empty, cleared]

/-- Drain completion leaves what waits at the port, and reads nothing of it. -/
theorem State.completeDrain_waiting (s : State) (ws : List PortReq) :
    (s.modTransit fun t => { t with waiting := ws }).completeDrain
      = s.completeDrain.modTransit fun t => { t with waiting := ws } := by
  cases change : s.transit.change with
  | none => simp only [State.completeDrain, State.modTransit_transit, change]
  | enterActive =>
    simp only [State.completeDrain, State.modTransit_transit, change, State.completeCommit_eq]
    rfl
  | returnToPass =>
    simp only [State.completeDrain, State.modTransit_transit, change, State.completeReturn_eq]
    rfl
  | softReset =>
    simp only [State.completeDrain, State.modTransit_transit, change, State.completeSoftReset_eq]
    rfl

theorem State.drainIfDone_of_done (s : State)
    (h : s.transit.mode = .draining ∧ s.transit.reads = [] ∧ s.transit.writes = []) : s.drainIfDone = s.completeDrain :=
  if_pos h

theorem State.drainIfDone_of_flying (s : State)
    (h : ¬(s.transit.mode = .draining ∧ s.transit.reads = [] ∧ s.transit.writes = [])) : s.drainIfDone = s := if_neg h

/-- The drain is examined whatever waits at the port. -/
theorem State.drainIfDone_waiting (s : State) (ws : List PortReq) :
    (s.modTransit fun t => { t with waiting := ws }).drainIfDone
      = s.drainIfDone.modTransit fun t => { t with waiting := ws } := by
  by_cases done : s.transit.mode = .draining ∧ s.transit.reads = [] ∧ s.transit.writes = []
  · rw [s.drainIfDone_of_done done]
    exact (State.drainIfDone_of_done (s.modTransit fun t => { t with waiting := ws }) done).trans (s.completeDrain_waiting ws)
  · rw [s.drainIfDone_of_flying done]
    exact State.drainIfDone_of_flying (s.modTransit fun t => { t with waiting := ws }) done

theorem State.drainIfDone_transit_waiting (s : State) : s.drainIfDone.transit.waiting = s.transit.waiting :=
  congrArg (fun t => t.transit.waiting) (s.drainIfDone_waiting s.transit.waiting)

/-! ### Waiting requests (R2) -/

theorem State.acceptWaiting_of_nil {s : State} (h : s.transit.waiting = []) : s.acceptWaiting = s := by
  unfold State.acceptWaiting
  rw [h, List.foldl_nil, State.modTransit, ← h]

/-- With nothing waiting, settling the port examines the drain. -/
theorem State.settlePort_of_nil {s : State} (h : s.transit.waiting = []) : s.settlePort = s.drainIfDone :=
  State.acceptWaiting_of_nil (s.drainIfDone_transit_waiting.trans h)

/-- The request that waits last is offered once those before it have been accepted or wait. -/
theorem State.settlePort_concat {s : State} (ws : List PortReq) (r : PortReq) :
    (s.modTransit fun t => { t with waiting := ws ++ [r] }).settlePort
      = (s.modTransit fun t => { t with waiting := ws }).settlePort.offer r := by
  unfold State.settlePort State.acceptWaiting
  rw [State.drainIfDone_waiting, State.drainIfDone_waiting]
  exact List.foldl_append

/-! ### No request moves RESET_N -/

theorem State.frameStart_inReset (s : State) (i : Fin 16) (w : CaptureWrite) : (s.frameStart i w).inReset = s.inReset := by
  unfold State.frameStart State.steer
  dsimp only
  split
  · rfl
  · split <;> rfl

theorem State.takeWrite_inReset (s : State) (i : Fin 16) (w : CaptureWrite) : (s.takeWrite i w).inReset = s.inReset := by
  unfold State.takeWrite
  dsimp only
  split
  · rfl
  · split
    · split
      · exact s.frameStart_inReset i w
      · rfl
    · split
      · exact State.frameStart_inReset _ i w
      · split
        · rfl
        · unfold State.steer
          dsimp only
          split <;> rfl

theorem State.readScreen_inReset (s : State) (c : Fin 2) (q : ReadReq) (offset : Nat) :
    (s.readScreen c q offset).inReset = s.inReset := by
  have restarted : (s.restartFrame c).inReset = s.inReset := by
    unfold State.restartFrame
    split <;> rfl
  have latched (t : State) : (t.latch c).inReset = t.inReset := by
    unfold State.latch
    dsimp only
    split <;> rfl
  unfold State.readScreen
  dsimp only
  split
  · split
    · rw [latched, restarted]
    · exact (latched _).trans restarted
  · split
    · rfl
    · split <;> rfl

theorem State.acceptRead_inReset (s : State) (q : ReadReq) : (s.acceptRead q).inReset = s.inReset := by
  unfold State.acceptRead
  split
  · split
    case h_5 => unfold State.readCapture; dsimp only; split <;> (try split) <;> rfl
    case h_6 => exact s.readScreen_inReset _ q _
    case h_7 => unfold State.readReview; dsimp only; split <;> (try split) <;> rfl
    all_goals rfl
  · rfl

theorem State.acceptWrite_inReset (s : State) (q : WriteReq) : (s.acceptWrite q).inReset = s.inReset := by
  unfold State.acceptWrite
  split
  · split
    case h_5 =>
      unfold State.writeCapture State.handWrite
      dsimp only
      split
      · rfl
      · exact State.takeWrite_inReset _ _ _
    all_goals rfl
  · rfl

theorem State.offer_inReset (s : State) (r : PortReq) : (s.offer r).inReset = s.inReset := by
  obtain ⟨-, same⟩ | same := s.offer_cases r
  · rw [same]
    cases r with
    | read q => exact s.acceptRead_inReset q
    | write q => exact s.acceptWrite_inReset q
  · rw [same]; rfl

theorem State.completeDrain_inReset (s : State) : s.completeDrain.inReset = s.inReset := by
  unfold State.completeDrain
  split
  · rfl
  · rw [State.completeCommit_eq]; rfl
  · rw [State.completeReturn_eq]; rfl
  · rw [State.completeSoftReset_eq]

theorem State.settlePort_inReset (s : State) : s.settlePort.inReset = s.inReset := by
  have offered (l : List PortReq) (t : State) : (l.foldl State.offer t).inReset = t.inReset := by
    induction l generalizing t with
    | nil => rfl
    | cons r l ih => exact (ih _).trans (t.offer_inReset r)
  unfold State.settlePort State.acceptWaiting
  rw [offered]
  show s.drainIfDone.inReset = s.inReset
  unfold State.drainIfDone
  split
  · exact s.completeDrain_inReset
  · rfl

/-- An arrival is offered to the port. -/
theorem exec_arrival {t : State} {r : PortReq} (wf : r.arrival.wf = true) (out : t.inReset = false) :
    exec r.arrival t = .next (t.offer r) := by
  cases r with
  | read q =>
    simp only [PortReq.arrival, exec, execUpstreamReadAccepted, show q.wf = true from wf, if_true, out,
      Bool.false_eq_true, if_false]
  | write q =>
    simp only [PortReq.arrival, exec, execUpstreamWriteAccepted, show q.wf = true from wf, if_true, out,
      Bool.false_eq_true, if_false]

/-! ### The return of an answer (R3, R53, R57, R112, R115, R158) -/

/-- The return of a read reads nothing of the Transit Path. -/
theorem State.readReturned_modTransit (s : State) (x : ReadTxn) (f : Transit → Transit) :
    (s.modTransit f).readReturned x = (s.readReturned x).modTransit f := by
  have served (u : State) (c : Fin 2) : (u.modTransit f).closeIfServed c = (u.closeIfServed c).modTransit f := by
    unfold State.closeIfServed
    simp only [State.modTransit_screen]
    split
    · rfl
    · split <;> rfl
  unfold State.readReturned
  cases x.service with
  | review slot offset size serial auto =>
    simp only [State.modTransit_holds]
    cases autoReleases s.holds.mapping x <;> rfl
  | screen r =>
    simp only [State.screenReturned]
    split
    · exact served (s.modScreen r.screen _) r.screen
    · rfl
  | _ => rfl

/-- The windows COMMIT would build do not depend on records, frames, notices or holds. -/
theorem State.buildWindows_congr {s t : State} (streams : t.streams = s.streams)
    (screens : ∀ c, (t.screen c).isSet = (s.screen c).isSet ∧ (t.screen c).base = (s.screen c).base
      ∧ (t.screen c).w = (s.screen c).w ∧ (t.screen c).h = (s.screen c).h)
    (pool : t.pool.isSet = s.pool.isSet ∧ t.pool.base = s.pool.base ∧ t.pool.review = s.pool.review
      ∧ t.pool.size = s.pool.size ∧ t.pool.count = s.pool.count) : t.buildWindows = s.buildWindows := by
  obtain ⟨isSet, base, review, size, count⟩ := pool
  have each (c : Fin 2) : (if t.comp.screens[c].isSet = true then some (Window.mk (.screen c) t.comp.screens[c].base
      (4 * t.comp.screens[c].w * t.comp.screens[c].h)) else none)
      = if s.comp.screens[c].isSet = true then some (Window.mk (.screen c) s.comp.screens[c].base
        (4 * s.comp.screens[c].w * s.comp.screens[c].h)) else none := by
    obtain ⟨set, at_, wide, high⟩ := screens c
    simp only [State.screen] at set at_ wide high
    rw [set, at_, wide, high]
  unfold State.buildWindows
  simp only [streams, isSet, base, review, size, count, each]

end Sys2Proof.Machine
end

section
/-! PROOFS. The return of an answer from the head of its order list, in and out of a drain. -/

namespace Sys2Proof.Machine

/-! ### What the return of a read leaves (R53, R112, R115, R158) -/

theorem SlotPool.unpinAll_frame (p : SlotPool) (l : List Nat) :
    (p.unpinAll l).isSet = p.isSet ∧ (p.unpinAll l).base = p.base ∧ (p.unpinAll l).review = p.review
      ∧ (p.unpinAll l).size = p.size ∧ (p.unpinAll l).count = p.count ∧ (p.unpinAll l).content = p.content := by
  unfold SlotPool.unpinAll
  induction l generalizing p with
  | nil => exact ⟨rfl, rfl, rfl, rfl, rfl, rfl⟩
  | cons n l ih =>
    obtain ⟨isSet, base, review, size, count, content⟩ := ih (p.unpin n)
    obtain ⟨isSet', base', review', size', count', content'⟩ := p.update_frame n Slot.unpin
    exact ⟨isSet.trans isSet', base.trans base', review.trans review', size.trans size', count.trans count',
      content.trans content'⟩

/-- The return of a read moves the pool, the screens, the holds and the notices alone, and no window. -/
theorem State.readReturned_frame (s : State) (x : ReadTxn) : (∃ pool comp holds notices,
    s.readReturned x = { s with pool := pool, comp := comp, holds := holds, notices := notices })
      ∧ (s.readReturned x).buildWindows = s.buildWindows := by
  have unpinned (n : Nat) := s.pool.update_frame n Slot.unpin
  unfold State.readReturned
  split
  · exact ⟨⟨_, _, _, _, rfl⟩, rfl⟩
  · exact ⟨⟨_, _, _, _, rfl⟩, rfl⟩
  · rename_i slot _ _ _
    obtain ⟨isSet, base, review, size, count, -⟩ := unpinned slot
    exact ⟨⟨_, _, _, _, rfl⟩,
      State.buildWindows_congr rfl (fun _ => ⟨rfl, rfl, rfl, rfl⟩) ⟨isSet, base, review, size, count⟩⟩
  · rename_i slot _ _ _ _ _
    obtain ⟨isSet, base, review, size, count, -⟩ := unpinned slot
    dsimp only
    split
    · exact ⟨⟨_, _, _, _, rfl⟩,
        State.buildWindows_congr rfl (fun _ => ⟨rfl, rfl, rfl, rfl⟩) ⟨isSet, base, review, size, count⟩⟩
    · rename_i m _
      obtain ⟨isSet', base', review', size', count', -⟩ :=
        (s.pool.unpin slot).update_frame m.slot (fun x => { x with hold := none })
      exact ⟨⟨_, _, _, _, rfl⟩, State.buildWindows_congr rfl (fun _ => ⟨rfl, rfl, rfl, rfl⟩)
        ⟨isSet'.trans isSet, base'.trans base, review'.trans review, size'.trans size, count'.trans count⟩⟩
  · rename_i r _
    unfold State.screenReturned
    split
    · generalize counted : s.modScreen r.screen (fun x =>
        { x with frame := x.frame.map (fun f => { f with inFlight := f.inFlight - 1 }) }) = u
      have screens (c : Fin 2) : (u.screen c).isSet = (s.screen c).isSet ∧ (u.screen c).base = (s.screen c).base
          ∧ (u.screen c).w = (s.screen c).w ∧ (u.screen c).h = (s.screen c).h := by
        rw [← counted, State.modScreen_screen]
        split <;> exact ⟨rfl, rfl, rfl, rfl⟩
      obtain same | ⟨f, same⟩ := u.closeIfServed_cases r.screen
      · rw [same]
        refine ⟨?_, State.buildWindows_congr ?_ screens ?_⟩ <;> rw [← counted]
        · exact ⟨_, _, _, _, rfl⟩
        · rfl
        · exact ⟨rfl, rfl, rfl, rfl, rfl⟩
      · obtain ⟨isSet, base, review, size, count, -⟩ := u.pool.unpinAll_frame f.slots
        rw [same]
        refine ⟨by rw [← counted]; exact ⟨_, _, _, _, rfl⟩, State.buildWindows_congr (by rw [← counted]; rfl) (fun c => ?_) ?_⟩
        · rw [State.closeFrame_screen]
          split <;> exact screens c
        · rw [← counted] at isSet base review size count ⊢
          exact ⟨isSet, base, review, size, count⟩
    · obtain ⟨isSet, base, review, size, count, -⟩ := s.pool.unpinAll_frame r.pins
      refine ⟨⟨_, _, _, _, rfl⟩, State.buildWindows_congr rfl (fun c => ?_) ⟨isSet, base, review, size, count⟩⟩
      rw [State.modScreen_screen]
      split <;> exact ⟨rfl, rfl, rfl, rfl⟩

/-! ### The head of an order list (R3) -/

section Read
variable {s : State} {id : TxnId} {pre post : List ReadTxn} {x : ReadTxn}
  (reads : s.transit.reads = pre ++ x :: post) (before : ∀ y ∈ pre, y.req.id ≠ id) (own : x.req.id = id)
include reads before own

theorem Transit.headRead_eq : s.transit.headRead id = some x := by
  unfold Transit.headRead
  rw [reads, List.find?_append, List.find?_eq_none.2 (by simpa using before)]
  simp [own]

theorem State.returnRead_unready (h : x.ready = false) : s.returnRead id = s := by
  simp [State.returnRead, Transit.headRead_eq reads before own, h]

theorem State.returnRead_ready (h : x.ready = true) :
    s.returnRead id = ({ s.readReturned x with transit := { s.transit with
      reads := pre ++ post, lastAnswer := some (.read id x.answer) } } : State).settlePort := by
  unfold State.returnRead
  simp only [Transit.headRead_eq reads before own, h, if_true, State.readReturned_modTransit]
  rw [State.modTransit, (s.readReturned_mode x .pass).2.1, reads,
    removeFirst_append _ pre x post (by simpa using before) (by simpa using own)]

end Read

section Write
variable {s : State} {id : TxnId} {pre post : List WriteTxn} {x : WriteTxn}
  (writes : s.transit.writes = pre ++ x :: post) (before : ∀ y ∈ pre, y.req.id ≠ id) (own : x.req.id = id)
include writes before own

theorem Transit.headWrite_eq : s.transit.headWrite id = some x := by
  unfold Transit.headWrite
  rw [writes, List.find?_append, List.find?_eq_none.2 (by simpa using before)]
  simp [own]

theorem State.returnWrite_unready (h : x.response = none ∨ x.dataTaken = false) : s.returnWrite id = s := by
  unfold State.returnWrite
  simp only [Transit.headWrite_eq writes before own]
  obtain unknown | outstanding := h
  · rw [unknown]
  · split
    · rfl
    · simp [outstanding]

theorem State.returnWrite_ready {resp : Resp} (known : x.response = some resp) (taken : x.dataTaken = true) :
    s.returnWrite id = ({ s with transit := { s.transit with
      writes := pre ++ post, lastAnswer := some (.write id resp) } } : State).settlePort := by
  unfold State.returnWrite
  simp only [Transit.headWrite_eq writes before own, known, taken, if_true]
  rw [State.modTransit, writes, removeFirst_append _ pre x post (by simpa using before) (by simpa using own)]

end Write

/-- Out of a drain and with nothing waiting, settling the port does nothing. -/
theorem State.settlePort_idle {s : State} (mode : s.transit.mode ≠ .draining) (nobody : s.transit.waiting = []) :
    s.settlePort = s := by
  rw [State.settlePort_of_nil nobody, State.drainIfDone_of_flying _ (fun h => mode h.1)]

/-- An answer that is complete is returned: one transaction less, and what the block that served it does, whatever else the
Transit Path holds. -/
theorem exec_answerReturned {s : State} {dir : Dir} {id : TxnId} (h : s.answerable dir id) :
    ∃ (v : State) (reads : List ReadTxn) (writes : List WriteTxn) (answer : Option Answer),
      (∃ pool comp holds notices, v = { s with pool := pool, comp := comp, holds := holds, notices := notices })
      ∧ v.buildWindows = s.buildWindows
      ∧ reads.length + writes.length + 1 = s.transit.reads.length + s.transit.writes.length
      ∧ ∀ f : Transit → Transit, (f s.transit).reads = s.transit.reads → (f s.transit).writes = s.transit.writes →
        exec (.answerReturned dir id) (s.modTransit f) = .next ({ v with transit := { f s.transit with
          reads := reads, writes := writes, lastAnswer := answer } } : State).settlePort := by
  cases dir with
  | read =>
    obtain ⟨pre, post, x, inOrder, before, own, complete⟩ := h
    have ready : x.ready = true := by
      unfold ReadTxn.ready
      cases service : x.service with
      | screen r =>
        rw [service] at complete
        simpa [ScreenRead.complete, Option.isSome_iff_ne_none] using complete
      | _ =>
        rw [service] at complete
        exact decide_eq_true complete
    obtain ⟨frame, windows⟩ := s.readReturned_frame x
    refine ⟨s.readReturned x, pre ++ post, s.transit.writes, some (.read id x.answer), frame, windows,
      by simp [inOrder]; omega, fun f reads writes => congrArg Host.Outcome.next ?_⟩
    rw [State.returnRead_ready (s := s.modTransit f) (reads.trans inOrder) before own ready,
      State.readReturned_modTransit, ← writes]
    rfl
  | write =>
    obtain ⟨pre, post, x, inOrder, before, own, taken, known⟩ := h
    obtain ⟨resp, known⟩ := Option.ne_none_iff_exists'.1 known
    refine ⟨s, s.transit.reads, pre ++ post, some (.write id resp), ⟨_, _, _, _, rfl⟩, rfl,
      by simp [inOrder]; omega, fun f reads writes => congrArg Host.Outcome.next ?_⟩
    rw [State.returnWrite_ready (s := s.modTransit f) (writes.trans inOrder) before own known taken, ← reads]
    rfl

/-! ### What a drain completion leaves (R15) -/

/-- The mode, the map, the command and the streams after a drain completion. -/
theorem State.completeDrain_leaves {s : State} (pending : s.transit.change ≠ .none) :
    s.completeDrain.transit.mode = (if s.transit.change = .enterActive then .active else .pass)
      ∧ s.completeDrain.transit.change = .none
      ∧ s.completeDrain.transit.windows = (if s.transit.change = .enterActive then s.buildWindows else [])
      ∧ s.completeDrain.transit.reads = s.transit.reads ∧ s.completeDrain.transit.writes = s.transit.writes
      ∧ s.completeDrain.port.buffer = .ready .done [] ∧ (∀ i : Fin 16, s.completeDrain.pool.content[i] = [])
      ∧ ∀ i, (s.completeDrain.stream i).cap.fill = none ∧ (s.completeDrain.stream i).cap.freshness = .noSignal := by
  have changed (i : Fin 16) : (mapAll Stream.modeChange s.streams)[i].cap.fill = none
      ∧ (mapAll Stream.modeChange s.streams)[i].cap.freshness = .noSignal := by
    rw [mapAll_get]; exact ⟨rfl, rfl⟩
  have reset (i : Fin 16) : (mapAll Stream.softReset s.streams)[i].cap.fill = none
      ∧ (mapAll Stream.softReset s.streams)[i].cap.freshness = .noSignal := by
    rw [mapAll_get]; exact ⟨rfl, rfl⟩
  have empty (i : Fin 16) : (Vector.replicate 16 ([] : List Nat))[i] = [] := replicate_get 16 [] i
  unfold State.completeDrain
  cases change : s.transit.change with
  | none => exact absurd change pending
  | enterActive =>
    simp only [State.completeCommit_eq]
    exact ⟨rfl, rfl, rfl, rfl, rfl, rfl, empty, changed⟩
  | returnToPass =>
    simp only [State.completeReturn_eq]
    exact ⟨rfl, rfl, rfl, rfl, rfl, rfl, empty, changed⟩
  | softReset =>
    rw [State.completeSoftReset_eq]
    exact ⟨rfl, rfl, rfl, rfl, rfl, rfl, empty, reset⟩

/-- The groups and the notices after a drain completion, where the hidden flag was exact (R152, R161, R162). -/
theorem State.completeDrain_tables {s : State} (pending : s.transit.change ≠ .none)
    (flag : s.lines.hidden = s.lines.reverseIsHidden) :
    s.completeDrain.holds = (if s.transit.change = .enterActive then s.holds else { s.holds with groups := [], mapping := none })
      ∧ s.completeDrain.notices = match s.transit.change with
        | .returnToPass => s.discardNotices
        | .softReset => { s.notices with records := [], lost := 0, due := false, timer := none, asserted := false }
        | _ => s.notices := by
  have quiet (u : State) : (u.withLines s.lines).notices = u.notices := by
    simp only [State.withLines, ← flag]
    rw [if_neg (by rintro ⟨set, clear, -⟩; rw [set] at clear; cases clear)]
  unfold State.completeDrain
  cases change : s.transit.change with
  | none => exact absurd change pending
  | enterActive =>
    simp only [State.completeCommit_eq]
    exact ⟨rfl, quiet _⟩
  | returnToPass =>
    simp only [State.completeReturn_eq]
    exact ⟨rfl, quiet _⟩
  | softReset =>
    rw [State.completeSoftReset_eq]
    exact ⟨rfl, rfl⟩

/-- The last answer of a drain ends it, and an earlier one does not. -/
theorem exec_answerReturned_draining {s : State} {dir : Dir} {id : TxnId} (h : s.answerable dir id)
    (draining : s.transit.mode = .draining) (pending : s.transit.change ≠ .none) (nobody : s.transit.waiting = []) :
    ∃ t, exec (.answerReturned dir id) s = .next t
      ∧ (s.transit.reads.length + s.transit.writes.length = 1 →
        t.transit.mode = (if s.transit.change = .enterActive then .active else .pass) ∧ t.transit.change = .none
        ∧ t.transit.windows = (if s.transit.change = .enterActive then s.buildWindows else [])
        ∧ t.transit.reads = [] ∧ t.transit.writes = [] ∧ t.port.buffer = .ready .done []
        ∧ (∀ i : Fin 16, t.pool.content[i] = [])
        ∧ (∀ i, (t.stream i).cap.fill = none ∧ (t.stream i).cap.freshness = .noSignal)
        ∧ (s.inReset = false → s.HiddenFlagExact → ∀ u,
          exec (.answerReturned dir id) { s with transit := { s.transit with mode := .active } } = .next u →
          t.holds = (if s.transit.change = .enterActive then u.holds else { u.holds with groups := [], mapping := none })
          ∧ t.notices = match s.transit.change with
            | .returnToPass =>
              u.holds.groups.foldl (fun q g => q.take s.time .holdReleased g.id (768 + g.slots.length)) u.notices
            | .softReset =>
              { u.notices with records := [], lost := 0, due := false, timer := none, asserted := false }
            | _ => u.notices))
      ∧ (2 ≤ s.transit.reads.length + s.transit.writes.length →
        t.transit.mode = .draining ∧ t.transit.change = s.transit.change ∧ t.port = s.port) := by
  obtain ⟨v, reads, writes, answer, ⟨pool, comp, holds, notices, rfl⟩, windows, count, returned⟩ := exec_answerReturned h
  have here := returned (fun t => t) rfl rfl
  have live := returned (fun t => { t with mode := .active }) rfl rfl
  rw [State.settlePort_of_nil (by exact nobody)] at here live
  rw [State.drainIfDone_of_flying _ (by simp)] at live
  refine ⟨_, here, fun last => ?_, fun more => ?_⟩
  · obtain ⟨rfl, rfl⟩ : reads = [] ∧ writes = [] := by
      constructor <;> exact List.length_eq_zero_iff.1 (by omega)
    rw [State.drainIfDone_of_done _ (by exact ⟨draining, rfl, rfl⟩)]
    let taken : State := { s with
      pool := pool, comp := comp, holds := holds, notices := notices
      transit := { s.transit with reads := [], writes := [], lastAnswer := answer } }
    obtain ⟨mode, change, map, r, w, buffer, content, streams⟩ := State.completeDrain_leaves (s := taken) pending
    refine ⟨mode, change, map.trans ?_, r, w, buffer, content, streams, fun out flag u hu => ?_⟩
    · exact congrArg (fun ws => if s.transit.change = .enterActive then ws else []) windows
    · obtain rfl := Host.Outcome.next.inj (live.symm.trans hu)
      exact State.completeDrain_tables (s := taken) pending (flag out)
  · rw [State.drainIfDone_of_flying _ (by
      rintro ⟨-, rfl, rfl⟩
      simp only [List.length_nil] at count
      omega)]
    exact ⟨draining, rfl, rfl⟩

/-- A request that waits last is accepted, or waits on, as one that arrives when the answer has been returned. -/
theorem exec_answerReturned_concat {s t : State} {dir : Dir} {id : TxnId} {ws : List PortReq} {r : PortReq}
    (out : s.inReset = false) (h : s.answerable dir id) (wf : r.arrival.wf = true) (waiting : s.transit.waiting = ws ++ [r])
    (before : exec (.answerReturned dir id) { s with transit := { s.transit with waiting := ws } } = .next t) :
    exec (.answerReturned dir id) s = exec r.arrival t := by
  obtain ⟨v, reads, writes, answer, ⟨pool, comp, holds, notices, rfl⟩, -, -, returned⟩ := exec_answerReturned h
  have here := returned (fun t => { t with waiting := ws ++ [r] }) rfl rfl
  have fewer := returned (fun t => { t with waiting := ws }) rfl rfl
  obtain rfl := Host.Outcome.next.inj (fewer.symm.trans before)
  have same : s.modTransit (fun t => { t with waiting := ws ++ [r] }) = s := by
    rw [State.modTransit, ← waiting]
  rw [same] at here
  rw [here, exec_arrival wf (by rw [State.settlePort_inReset]; exact out)]
  let taken : State := { s with
    pool := pool, comp := comp, holds := holds, notices := notices
    transit := { s.transit with reads := reads, writes := writes, lastAnswer := answer } }
  exact congrArg Host.Outcome.next (taken.settlePort_concat ws r)

/-- Settles O6: the head of the order list is returned once complete; then the drain is examined and the requests that wait
are offered. -/
theorem answersReturnInOrder : Obligations.AnswersReturnInOrder := by
  refine ⟨fun s pre post x writes before outstanding => ?_, fun s id pre post x reads before own served => ⟨fun few => ?_,
      fun all mode nobody review => ?_⟩, fun s id pre post x writes before own => ⟨fun unready => ?_,
      fun resp known taken mode nobody => ?_⟩,
    fun s dir id h draining pending nobody => exec_answerReturned_draining h draining pending nobody,
    fun s t dir id ws r out h wf waiting => exec_answerReturned_concat out h wf waiting⟩
  · simp only [exec, execWriteDataTaken, State.modTransit, writes, takeData_append pre x post before outstanding]
  · refine congrArg Host.Outcome.next (State.returnRead_unready reads before own ?_)
    unfold ReadTxn.ready
    split
    · rename_i r service
      exact absurd service (served r)
    · simpa using few
  · have ready : x.ready = true := by
      unfold ReadTxn.ready
      split
      · rename_i r service
        exact absurd service (served r)
      · simpa using all
    have answer : x.answer = x.beats := by
      unfold ReadTxn.answer
      split
      · rename_i r service
        exact absurd service (served r)
      · rfl
    refine congrArg Host.Outcome.next ((State.returnRead_ready reads before own ready).trans ?_)
    rw [State.settlePort_idle (by exact mode) (by exact nobody), answer]
    unfold State.readReturned
    cases service : x.service with
    | review a b c d e => exact absurd service (review a b c d e)
    | screen r => exact absurd service (served r)
    | _ => rfl
  · exact congrArg Host.Outcome.next (State.returnWrite_unready writes before own unready)
  · refine congrArg Host.Outcome.next ((State.returnWrite_ready writes before own known taken).trans ?_)
    rw [State.settlePort_idle (by exact mode) (by exact nobody)]

end Sys2Proof.Machine
end

section
/-! PROOFS. COMMIT, RETURN TO PASS and SOFT RESET: the seven checks of R178, entering DRAINING, and what the immediate
completion leaves. -/

namespace Sys2Proof.Machine

/-! ### The least pair, and the first check that fails (R178) -/

theorem leastPair_eq_none {l : List (Nat × Nat)} : leastPair l = none ↔ l = [] := by
  cases l with
  | nil => simp [leastPair]
  | cons p ps =>
    unfold leastPair
    cases leastPair ps with
    | none => simp
    | some q => simp only; split <;> simp

/-- `leastPair` finds the least of the pairs listed. -/
theorem leastPair_spec {l : List (Nat × Nat)} {x : Nat × Nat} (h : leastPair l = some x) :
    LeastPair (fun a b => (a, b) ∈ l) x.1 x.2 := by
  induction l generalizing x with
  | nil => cases h
  | cons p ps ih =>
    unfold leastPair at h
    cases rest : leastPair ps with
    | none =>
      obtain rfl := leastPair_eq_none.1 rest
      obtain rfl : p = x := by simpa [leastPair] using h
      refine ⟨List.mem_cons_self, fun c d mem => ?_⟩
      obtain rfl : (c, d) = p := by simpa using mem
      exact .inr ⟨rfl, le_rfl⟩
    | some q =>
      obtain ⟨isIn, least⟩ := ih rest
      simp only [rest] at h
      split at h <;> obtain rfl := Option.some.inj h
      · refine ⟨List.mem_cons_of_mem _ isIn, fun c d mem => ?_⟩
        rcases List.mem_cons.1 mem with rfl | mem
        · omega
        · exact least c d mem
      · refine ⟨List.mem_cons_self, fun c d mem => ?_⟩
        rcases List.mem_cons.1 mem with rfl | mem
        · exact .inr ⟨rfl, le_rfl⟩
        · have := least c d mem
          omega

theorem LeastPair.unique {p : Nat → Nat → Prop} {a b c d : Nat} (h : LeastPair p a b) (h' : LeastPair p c d) :
    a = c ∧ b = d := by
  have := h.2 c d h'.1
  have := h'.2 a b h.1
  omega

/-- A list of pairs names what fails a check: the check's status, and the pairs of data bytes of the items that fail. -/
def Names (check : Status × (Nat → Nat → Prop)) (items : Status × List (Nat × Nat)) : Prop :=
  check.1 = items.1 ∧ ∀ a b, (a, b) ∈ items.2 ↔ check.2 a b

theorem Names.leastPair_eq_none_iff {check : Status × (Nat → Nat → Prop)} {items : Status × List (Nat × Nat)}
    (h : Names check items) : leastPair items.2 = none ↔ ∀ a b, ¬check.2 a b := by
  rw [leastPair_eq_none, List.eq_nil_iff_forall_not_mem]
  exact ⟨fun none a b fails => none _ ((h.2 a b).2 fails), fun none x mem => none x.1 x.2 ((h.2 _ _).1 mem)⟩

theorem Names.leastPair_eq_some {check : Status × (Nat → Nat → Prop)} {items : Status × List (Nat × Nat)}
    (h : Names check items) {a b : Nat} (least : LeastPair check.2 a b) : leastPair items.2 = some (a, b) := by
  cases found : leastPair items.2 with
  | none => exact absurd least.1 (h.leastPair_eq_none_iff.1 found a b)
  | some x =>
    have spec := leastPair_spec found
    have same : (fun a b => (a, b) ∈ items.2) = check.2 := by
      funext a b
      exact propext (h.2 a b)
    rw [same] at spec
    obtain ⟨first, second⟩ := spec.unique least
    rw [← first, ← second]

/-- No check fails exactly when none has an item that fails it. -/
theorem firstFailure_eq_none_iff {checks : List (Status × (Nat → Nat → Prop))} {items : List (Status × List (Nat × Nat))}
    (h : List.Forall₂ Names checks items) : firstFailure items = none ↔ ∀ c ∈ checks, ∀ a b, ¬c.2 a b := by
  induction h with
  | nil => simp [firstFailure]
  | @cons c x checks items named _ ih =>
    rw [firstFailure, List.forall_mem_cons, ← ih, ← named.leastPair_eq_none_iff]
    cases leastPair x.2 with
    | none => simp
    | some y => simp

/-- The first check with an item that fails it gives the status, and the least pair the data. -/
theorem firstFailure_eq_some {checks : List (Status × (Nat → Nat → Prop))} {items : List (Status × List (Nat × Nat))}
    (h : List.Forall₂ Names checks items) {n : Nat} {st : Status} {p : Nat → Nat → Prop} {a b : Nat}
    (at_n : checks[n]? = some (st, p))
    (passed : ∀ m : Nat, m < n → ∀ st' (p' : Nat → Nat → Prop), checks[m]? = some (st', p') → ∀ c d, ¬p' c d)
    (least : LeastPair p a b) : firstFailure items = some (st, a, b) := by
  induction h generalizing n with
  | nil => simp at at_n
  | @cons c x checks items named _ ih =>
    rw [firstFailure]
    cases n with
    | zero =>
      obtain rfl : c = (st, p) := by simpa using at_n
      rw [named.leastPair_eq_some least, ← named.1]
    | succ n =>
      rw [named.leastPair_eq_none_iff.2 (passed 0 (by omega) c.1 c.2 rfl)]
      exact ih (by simpa using at_n) fun m below st' p' found => passed (m + 1) (by omega) st' p' (by simpa using found)

/-! ### What each of the seven checks lists -/

theorem WindowKind.code_injective {v w : WindowKind} (h : v.code = w.code) : v = w := by
  cases v <;> cases w <;> simp only [WindowKind.code, reduceCtorEq, capture.injEq, screen.injEq, Fin.ext_iff] at h ⊢ <;> omega

theorem State.mem_listedSlots {s : State} {n k : Nat} : (n, k) ∈ s.listedSlots ↔
    ∃ i, (s.stream i).cfg.role ≠ .none ∧ n ∈ (s.stream i).cfg.slotList ∧ k = i.val := by
  rw [State.listedSlots, List.mem_flatMap]
  refine exists_congr fun i => ?_
  split
  · simp_all
  · simp_all [eq_comm]

theorem State.mem_absentSlots {s : State} {a b : Nat} : (a, b) ∈ s.absentSlots ↔
    ∃ i, (s.stream i).cfg.role ≠ .none ∧ a ∈ (s.stream i).cfg.slotList ∧ s.pool.count ≤ a ∧ b = i.val := by
  rw [State.absentSlots, List.mem_filter, State.mem_listedSlots, decide_eq_true_iff]
  constructor
  · rintro ⟨⟨i, role, mem, rfl⟩, absent⟩
    exact ⟨i, role, mem, absent, rfl⟩
  · rintro ⟨i, role, mem, absent, rfl⟩
    exact ⟨⟨i, role, mem, rfl⟩, absent⟩

theorem State.mem_sharedSlots {s : State} {a b : Nat} : (a, b) ∈ s.sharedSlots ↔
    ∃ i j : Fin 16, i < j ∧ (s.stream i).cfg.role ≠ .none ∧ (s.stream j).cfg.role ≠ .none
      ∧ a ∈ (s.stream i).cfg.slotList ∧ a ∈ (s.stream j).cfg.slotList ∧ b = i.val := by
  rw [State.sharedSlots, List.mem_filter, State.mem_listedSlots, List.any_eq_true]
  constructor
  · rintro ⟨⟨i, role, mem, rfl⟩, ⟨n, k⟩, listed, shares⟩
    obtain ⟨j, role', mem', rfl⟩ := State.mem_listedSlots.1 listed
    obtain ⟨rfl, lt⟩ := of_decide_eq_true shares
    exact ⟨i, j, lt, role, role', mem, mem', rfl⟩
  · rintro ⟨i, j, lt, role, role', mem, mem', rfl⟩
    exact ⟨⟨i, role, mem, rfl⟩, (a, j.val), State.mem_listedSlots.2 ⟨j, role', mem', rfl⟩, decide_eq_true ⟨rfl, lt⟩⟩

theorem mem_windowsTooHigh {ws : List Window} {a b : Nat} : (a, b) ∈ windowsTooHigh ws ↔
    ∃ w ∈ ws, 68719476736 < w.base + w.extent ∧ a = w.kind.code ∧ b = 255 := by
  simp only [windowsTooHigh, List.mem_map, List.mem_filter, decide_eq_true_eq, Prod.mk.injEq, and_assoc, @eq_comm Nat]
  rfl

theorem Window.overlaps_iff (v w : Window) : v.overlaps w = true ↔
    ∃ n, v.base ≤ n ∧ n < v.base + v.extent ∧ w.base ≤ n ∧ n < w.base + w.extent := v.meets_iff w.base w.stop

theorem mem_windowOverlaps {ws : List Window} {a b : Nat} : (a, b) ∈ windowOverlaps ws ↔
    ∃ v ∈ ws, ∃ w ∈ ws, v.kind.code < w.kind.code
      ∧ (∃ n, v.base ≤ n ∧ n < v.base + v.extent ∧ w.base ≤ n ∧ n < w.base + w.extent)
      ∧ a = v.kind.code ∧ b = w.kind.code := by
  simp only [windowOverlaps, List.mem_flatMap, List.mem_map, List.mem_filter, Bool.and_eq_true, decide_eq_true_iff,
    Window.overlaps_iff, Prod.mk.injEq, and_assoc, @eq_comm Nat]

theorem State.mem_dumpMeets {s : State} {ws : List Window} {a b : Nat} : (a, b) ∈ s.dumpMeets ws ↔
    ∃ d, s.port.dump = some d ∧ ∃ w ∈ ws,
      (∃ n, w.base ≤ n ∧ n < w.base + w.extent ∧ d.dest ≤ n ∧ n < d.dest + 400 * (d.last - d.first + 1))
      ∧ a = w.kind.code ∧ b = 254 := by
  unfold State.dumpMeets
  cases s.port.dump with
  | none => simp
  | some d =>
    simp only [List.mem_map, List.mem_filter, Window.meets_iff, Dump.range, Config.dumpRecordBytes, Prod.mk.injEq,
      Option.some.injEq, exists_eq_left', and_assoc, @eq_comm Nat]

theorem State.mem_framesTooLarge {s : State} {a b : Nat} : (a, b) ∈ s.framesTooLarge ↔
    ∃ i, (s.stream i).cfg.role ≠ .none ∧ (s.stream i).cfg.enabled = true
      ∧ s.pool.size < 64 + 4 * (s.stream i).cfg.w * (s.stream i).cfg.h ∧ a = i.val ∧ b = 255 := by
  simp only [State.framesTooLarge, List.mem_map, List.mem_filter, List.mem_finRange, true_and, Bool.and_eq_true,
    decide_eq_true_eq, Prod.mk.injEq, and_assoc, @eq_comm Nat]
  rfl

/-- What COMMIT lists for its seven checks. -/
def State.commitItems (s : State) : List (Status × List (Nat × Nat)) :=
  [(.state, if s.pool.isSet then [] else [(255, 255)]), (.badParam, s.absentSlots), (.inUse, s.sharedSlots),
    (.badAddress, windowsTooHigh s.buildWindows), (.overlap, windowOverlaps s.buildWindows),
    (.badAddress, s.dumpMeets s.buildWindows), (.tooLarge, s.framesTooLarge)]

theorem State.commitFailure_eq (s : State) : s.commitFailure = firstFailure s.commitItems := rfl

theorem State.commitItems_name (s : State) : List.Forall₂ Names s.commitChecks s.commitItems := by
  have unset (a b : Nat) : (a, b) ∈ (if s.pool.isSet then [] else [(255, 255)])
      ↔ s.pool.isSet = false ∧ a = 255 ∧ b = 255 := by
    cases s.pool.isSet <;> simp
  exact .cons ⟨rfl, unset⟩ <| .cons ⟨rfl, fun _ _ => State.mem_absentSlots⟩ <| .cons ⟨rfl, fun _ _ => State.mem_sharedSlots⟩ <|
    .cons ⟨rfl, fun _ _ => mem_windowsTooHigh⟩ <| .cons ⟨rfl, fun _ _ => mem_windowOverlaps⟩ <|
    .cons ⟨rfl, fun _ _ => State.mem_dumpMeets⟩ <| .cons ⟨rfl, fun _ _ => State.mem_framesTooLarge⟩ .nil

/-- A configuration passes COMMIT exactly when no item fails one of the seven checks. -/
theorem State.commitFailure_eq_none_iff (s : State) : s.commitFailure = none ↔
      s.pool.isSet = true
      ∧ (∀ i n, (s.stream i).cfg.role ≠ .none → n ∈ (s.stream i).cfg.slotList → n < s.pool.count)
      ∧ (∀ i j n, i ≠ j → (s.stream i).cfg.role ≠ .none → (s.stream j).cfg.role ≠ .none →
          n ∈ (s.stream i).cfg.slotList → n ∉ (s.stream j).cfg.slotList)
      ∧ (∀ w ∈ s.buildWindows, w.base + w.extent ≤ 68719476736)
      ∧ (∀ v ∈ s.buildWindows, ∀ w ∈ s.buildWindows, v.kind ≠ w.kind →
          ∀ b, v.base ≤ b → b < v.base + v.extent → ¬(w.base ≤ b ∧ b < w.base + w.extent))
      ∧ (∀ d, s.port.dump = some d → ∀ w ∈ s.buildWindows, ∀ b, w.base ≤ b → b < w.base + w.extent →
          ¬(d.dest ≤ b ∧ b < d.dest + 400 * (d.last - d.first + 1)))
      ∧ ∀ i, (s.stream i).cfg.role ≠ .none → (s.stream i).cfg.enabled = true →
          64 + 4 * (s.stream i).cfg.w * (s.stream i).cfg.h ≤ s.pool.size := by
  rw [State.commitFailure_eq, firstFailure_eq_none_iff s.commitItems_name]
  simp only [State.commitChecks, List.forall_mem_cons, List.not_mem_nil, false_implies, implies_true, and_true]
  refine and_congr ?_ <| and_congr ?_ <| and_congr ?_ <| and_congr ?_ <| and_congr ?_ <| and_congr ?_ ?_
  · exact ⟨fun none => by simpa using none 255 255, fun set a b fails => by simp [set] at fails⟩
  · exact ⟨fun none i n role mem => not_le.1 fun absent => none n i.val ⟨i, role, mem, absent, rfl⟩,
      fun all a b ⟨i, role, mem, absent, _⟩ => absent.not_gt (all i a role mem)⟩
  · constructor
    · intro none i j n differ role role' mem mem'
      rcases lt_or_gt_of_ne differ with lt | lt
      · exact none n i.val ⟨i, j, lt, role, role', mem, mem', rfl⟩
      · exact none n j.val ⟨j, i, lt, role', role, mem', mem, rfl⟩
    · rintro all a b ⟨i, j, lt, role, role', mem, mem', -⟩
      exact all i j a lt.ne role role' mem mem'
  · exact ⟨fun none w mem => not_lt.1 fun high => none _ _ ⟨w, mem, high, rfl, rfl⟩,
      fun all a b ⟨w, mem, high, _⟩ => high.not_ge (all w mem)⟩
  · constructor
    · rintro none v mem w mem' differ b first last ⟨first', last'⟩
      rcases lt_or_gt_of_ne (fun same => differ (WindowKind.code_injective same)) with lt | lt
      · exact none _ _ ⟨v, mem, w, mem', lt, ⟨b, first, last, first', last'⟩, rfl, rfl⟩
      · exact none _ _ ⟨w, mem', v, mem, lt, ⟨b, first', last', first, last⟩, rfl, rfl⟩
    · rintro all a b ⟨v, mem, w, mem', lt, ⟨n, first, last, first', last'⟩, -⟩
      exact all v mem w mem' (fun same => lt.ne (congrArg WindowKind.code same)) n first last ⟨first', last'⟩
  · constructor
    · rintro none d running w mem b first last ⟨first', last'⟩
      exact none _ _ ⟨d, running, w, mem, ⟨b, first, last, first', last'⟩, rfl, rfl⟩
    · rintro all a b ⟨d, running, w, mem, ⟨n, first, last, first', last'⟩, -⟩
      exact all d running w mem n first last ⟨first', last'⟩
  · exact ⟨fun none i role on => not_lt.1 fun large => none _ _ ⟨i, role, on, large, rfl, rfl⟩,
      fun all a b ⟨i, role, on, large, _⟩ => large.not_ge (all i role on)⟩

/-! ### The mode commands, once heard (R13, R173, R179) -/

section ModeCommands
variable {s : State}

/-- A mode command is taken: DRAINING is entered, the command is PENDING, and the frame of two bytes carried zeros. -/
def State.startMode (s : State) (change : Change) : State :=
  { s with
    transit := { s.transit with mode := .draining, change := change, drainedFrom := s.transit.mode }
    port := { s.port with buffer := .pending change, miso := [0, 0] } }

theorem exec_commit_of_active (hears : s.hears) (active : s.transit.mode = .active) :
    exec (.commit (frameOf [])) s = .next (s.responds 2 .state []) := by
  refine congrArg Host.Outcome.next ((State.request_frameOf (ps := []) hears rfl (Nat.zero_le _) _).trans ?_)
  exact if_pos active

theorem exec_commit_of_failure {st : Status} {a b : Nat} (hears : s.hears) (inactive : s.transit.mode ≠ .active)
    (failed : s.commitFailure = some (st, a, b)) :
    exec (.commit (frameOf [])) s = .next (s.responds 2 st [BitVec.ofNat 8 a, BitVec.ofNat 8 b]) := by
  refine congrArg Host.Outcome.next ((State.request_frameOf (ps := []) hears rfl (Nat.zero_le _) _).trans ((if_neg inactive).trans ?_))
  have same : (s.driveZeros (frameOf [])).commitFailure = s.commitFailure := rfl
  simp only [same, failed]
  rfl

theorem exec_commit_of_passed (hears : s.hears) (inactive : s.transit.mode ≠ .active) (passed : s.commitFailure = none) :
    exec (.commit (frameOf [])) s = .next (s.startMode .enterActive).settlePort := by
  refine congrArg Host.Outcome.next ((State.request_frameOf (ps := []) hears rfl (Nat.zero_le _) _).trans ((if_neg inactive).trans ?_))
  have same : (s.driveZeros (frameOf [])).commitFailure = s.commitFailure := rfl
  simp only [same, passed]
  rfl

theorem exec_returnToPass_of_not_active (hears : s.hears) (inactive : s.transit.mode ≠ .active) :
    exec (.returnToPass (frameOf [])) s = .next (s.responds 2 .state []) := by
  refine congrArg Host.Outcome.next ((State.request_frameOf (ps := []) hears rfl (Nat.zero_le _) _).trans ?_)
  exact if_pos inactive

theorem exec_returnToPass_of_groups (hears : s.hears) (active : s.transit.mode = .active) (held : s.holds.groups ≠ []) :
    exec (.returnToPass (frameOf [])) s = .next (s.responds 2 .holdsPresent []) := by
  refine congrArg Host.Outcome.next ((State.request_frameOf (ps := []) hears rfl (Nat.zero_le _) _).trans
    ((if_neg (not_not.2 active)).trans ?_))
  exact if_pos held

theorem exec_returnToPass_of_no_group (hears : s.hears) (active : s.transit.mode = .active) (none : s.holds.groups = []) :
    exec (.returnToPass (frameOf [])) s = .next (s.startMode .returnToPass).settlePort := by
  refine congrArg Host.Outcome.next ((State.request_frameOf (ps := []) hears rfl (Nat.zero_le _) _).trans
    ((if_neg (not_not.2 active)).trans ?_))
  exact if_neg (not_not.2 none)

theorem exec_softReset_of_hears (hears : s.hears) :
    exec (.softReset (frameOf [])) s = .next (s.startMode .softReset).settlePort :=
  congrArg Host.Outcome.next (State.request_frameOf (ps := []) hears rfl (Nat.zero_le _) _)

end ModeCommands

/-- In DRAINING every request offered waits. -/
theorem State.offers_of_draining {s : State} (draining : s.transit.mode = .draining) (rs : List PortReq) :
    rs.foldl State.offer s = s.modTransit fun t => { t with waiting := t.waiting ++ rs } := by
  induction rs generalizing s with
  | nil => simp [State.modTransit]
  | cons r rs ih =>
    have refused : s.canAccept r = false := by cases r <;> simp [State.canAccept, draining]
    rw [List.foldl_cons, State.offer_of_not_canAccept refused, ih (by exact draining)]
    simp [State.modTransit]

/-- With a transaction in flight a part that enters DRAINING stays so, and nothing moves at the port. -/
theorem State.settlePort_of_draining {s : State} (draining : s.transit.mode = .draining)
    (flying : s.transit.reads ≠ [] ∨ s.transit.writes ≠ []) : s.settlePort = s := by
  have stands : s.drainIfDone = s := s.drainIfDone_of_flying fun ⟨_, noReads, noWrites⟩ =>
    flying.elim (fun h => h noReads) fun h => h noWrites
  rw [State.settlePort, stands, State.acceptWaiting, State.offers_of_draining (by exact draining)]
  rfl

/-- Settles O44: `commitFailure` is the first of the seven lists with an entry, and each list names what fails its check. -/
theorem commitChecksTheConfiguration : Obligations.CommitChecksTheConfiguration := by
  intro s
  exact ⟨s.commitFailure_eq_none_iff, fun n st p a b at_n passed least => firstFailure_eq_some s.commitItems_name at_n passed least,
    exec_commit_of_active, fun st a b => exec_commit_of_failure⟩

/-- Settles O45: with a transaction in flight no drain completes and every request goes on waiting, so the command leaves
what it has entered. -/
theorem modeCommandsEnterDraining : Obligations.ModeCommandsEnterDraining := by
  intro s hears
  refine ⟨fun change flying t entered => ?_, exec_returnToPass_of_not_active hears, exec_returnToPass_of_groups hears⟩
  subst entered
  have stays (change : Change) : (s.startMode change).settlePort = s.startMode change :=
    State.settlePort_of_draining rfl flying
  refine ⟨?_, ?_, ?_⟩
  · rintro rfl inactive passed
    rw [exec_commit_of_passed hears inactive passed, stays]
    rfl
  · rintro rfl active none
    rw [exec_returnToPass_of_no_group hears active none, stays]
    rfl
  · rintro rfl
    rw [exec_softReset_of_hears hears, stays]
    rfl

end Sys2Proof.Machine
end

section
/-! PROOFS. What COMMIT, RETURN TO PASS and SOFT RESET leave when nothing is in flight (R15), and the window map of R5. -/

namespace Sys2Proof.Machine

/-! ### The windows the configuration gives (section 1.2) -/

theorem State.capture_mem_buildWindows (s : State) (w : Window) :
    w ∈ (List.finRange 16).filterMap (fun i =>
        if s.streams[i].cfg.role = .none then none else some (captureWindow i s.streams[i].cfg)) ↔
      ∃ i, (s.stream i).cfg.role ≠ .none ∧ w = captureWindow i (s.stream i).cfg := by
  simp only [List.mem_filterMap, List.mem_finRange, true_and, Option.ite_none_left_eq_some, Option.some.injEq, State.stream,
    @eq_comm Window w, ne_eq]

theorem State.screen_mem_buildWindows (s : State) (w : Window) :
    w ∈ (List.finRange 2).filterMap (fun c =>
        let x := s.comp.screens[c]
        if x.isSet then some (⟨.screen c, x.base, 4 * x.w * x.h⟩ : Window) else none) ↔
      ∃ c, (s.screen c).isSet = true ∧ w = ⟨.screen c, (s.screen c).base, 4 * (s.screen c).w * (s.screen c).h⟩ := by
  simp only [List.mem_filterMap, List.mem_finRange, true_and, Option.ite_none_right_eq_some, Option.some.injEq, State.screen,
    @eq_comm Window w]

theorem State.mem_buildWindows (s : State) (w : Window) : w ∈ s.buildWindows ↔
    (∃ i, (s.stream i).cfg.role ≠ .none ∧ w = captureWindow i (s.stream i).cfg)
      ∨ (∃ c, (s.screen c).isSet = true ∧ w = ⟨.screen c, (s.screen c).base, 4 * (s.screen c).w * (s.screen c).h⟩)
      ∨ s.pool.isSet = true
        ∧ (w = ⟨.review, s.pool.review, s.pool.size⟩ ∨ w = ⟨.pool, s.pool.base, s.pool.size * s.pool.count⟩) := by
  rw [State.buildWindows, List.mem_append, List.mem_append, or_assoc, s.capture_mem_buildWindows, s.screen_mem_buildWindows]
  cases s.pool.isSet <;> simp

/-- The extent of a capture window is the frame size, rounded up to a multiple of 4,096. -/
theorem roundUp4K_eq_iff {n extent : Nat} : extent = roundUp4K n ↔ extent % 4096 = 0 ∧ n ≤ extent ∧ extent < n + 4096 := by
  unfold roundUp4K
  omega

/-- The codes of the windows rise along the map. -/
theorem State.buildWindows_kinds_nodup (s : State) : (s.buildWindows.map Window.kind).Nodup := by
  have captures : (((List.finRange 16).filterMap (fun i => if s.streams[i].cfg.role = .none then none
      else some (captureWindow i s.streams[i].cfg))).map Window.kind).Nodup := by
    rw [List.map_filterMap]
    refine (List.nodup_finRange 16).filterMap fun i j k hi hj => ?_
    simp only [Option.map_eq_some_iff, Option.mem_def, Option.ite_none_left_eq_some, Option.some.injEq] at hi hj
    obtain ⟨_, ⟨_, rfl⟩, rfl⟩ := hi
    obtain ⟨_, ⟨_, rfl⟩, same⟩ := hj
    exact (WindowKind.capture.inj same).symm
  have screens : (((List.finRange 2).filterMap (fun c =>
      let x := s.comp.screens[c]
      if x.isSet then some (⟨.screen c, x.base, 4 * x.w * x.h⟩ : Window) else none)).map Window.kind).Nodup := by
    rw [List.map_filterMap]
    refine (List.nodup_finRange 2).filterMap fun c d k hc hd => ?_
    simp only [Option.map_eq_some_iff, Option.mem_def, Option.ite_none_right_eq_some, Option.some.injEq] at hc hd
    obtain ⟨_, ⟨_, rfl⟩, rfl⟩ := hc
    obtain ⟨_, ⟨_, rfl⟩, same⟩ := hd
    exact (WindowKind.screen.inj same).symm
  rw [State.buildWindows, List.map_append, List.map_append, List.nodup_append', List.nodup_append']
  refine ⟨⟨captures, screens, ?_⟩, ?_, ?_⟩
  · intro k first second
    obtain ⟨v, mem, rfl⟩ := List.mem_map.1 first
    obtain ⟨w, mem', same⟩ := List.mem_map.1 second
    obtain ⟨i, -, rfl⟩ := (s.capture_mem_buildWindows v).1 mem
    obtain ⟨c, -, rfl⟩ := (s.screen_mem_buildWindows w).1 mem'
    cases same
  · cases s.pool.isSet <;> simp
  · intro k first second
    have ofPool : k = .review ∨ k = .pool := by
      cases set : s.pool.isSet <;> simp [set] at second
      exact second
    rcases List.mem_append.1 first with capture | screen
    · obtain ⟨v, mem, rfl⟩ := List.mem_map.1 capture
      obtain ⟨i, -, rfl⟩ := (s.capture_mem_buildWindows v).1 mem
      simp [captureWindow] at ofPool
    · obtain ⟨v, mem, rfl⟩ := List.mem_map.1 screen
      obtain ⟨c, -, rfl⟩ := (s.screen_mem_buildWindows v).1 mem
      simp at ofPool

/-! ### The slots after a completion (R46, R59, R60) -/

theorem SlotPool.emptied_slots (p : SlotPool) (n : Nat) : p.emptied.slots[n]? = (p.slots[n]?).map fun x =>
    ⟨.free, x.owner, false, 0, 0, 0, 0, false, false, 0, none⟩ := List.getElem?_map

theorem SlotPool.committed_slots (p : SlotPool) (streams : Vector Stream 16) (n : Nat) :
    (p.committed streams).slots[n]? = (p.slots[n]?).map fun _ =>
      ⟨.free, ownerAtCommit streams n, false, 0, 0, 0, 0, false, false, 0, none⟩ := by
  simp only [SlotPool.committed, List.getElem?_map, List.getElem?_zipIdx, Option.map_map, Nat.zero_add]
  rfl

theorem ownerAtCommit_eq_none {streams : Vector Stream 16} {n : Nat}
    (none : ∀ i : Fin 16, streams[i].cfg.role ≠ .none → n ∉ streams[i].cfg.slotList) : ownerAtCommit streams n = .none := by
  refine List.find?_eq_none.2 fun i _ lists => ?_
  simp only [Bool.and_eq_true, Bool.not_eq_true', decide_eq_false_iff_not, List.contains_iff_mem] at lists
  exact none i lists.1 lists.2

/-- The only stream whose list names a slot becomes its owner. -/
theorem ownerAtCommit_eq_some {streams : Vector Stream 16} {n : Nat} {i : Fin 16} (role : streams[i].cfg.role ≠ .none)
    (mem : n ∈ streams[i].cfg.slotList)
    (only : ∀ j : Fin 16, i ≠ j → streams[j].cfg.role ≠ .none → n ∉ streams[j].cfg.slotList) :
    ownerAtCommit streams n = some i := by
  unfold ownerAtCommit
  cases found : (List.finRange 16).find? fun i => !decide (streams[i].cfg.role = .none) && streams[i].cfg.slotList.contains n with
  | none =>
    have skipped := List.find?_eq_none.1 found i (List.mem_finRange i)
    simp only [Bool.and_eq_true, Bool.not_eq_true', decide_eq_false_iff_not, List.contains_iff_mem] at skipped
    exact absurd ⟨role, mem⟩ skipped
  | some j =>
    have lists := List.find?_some found
    simp only [Bool.and_eq_true, Bool.not_eq_true', decide_eq_false_iff_not, List.contains_iff_mem] at lists
    by_cases same : i = j
    · rw [same]
    · exact absurd lists.2 (only j same lists.1)

/-! ### The immediate completions (R13, R15) -/

/-- With nothing in flight and nothing waiting a mode command completes at once. -/
theorem State.startMode_settled {s : State} (change : Change) (reads : s.transit.reads = []) (writes : s.transit.writes = [])
    (waiting : s.transit.waiting = []) : (s.startMode change).settlePort = (s.startMode change).completeDrain := by
  rw [State.settlePort_of_nil (by exact waiting), State.drainIfDone_of_done _ (by exact ⟨rfl, reads, writes⟩)]

/-- A stream as COMMIT and RETURN TO PASS leave it (R42, R43, R75). -/
theorem State.modeChange_stream (s : State) (i : Fin 16) : (mapAll Stream.modeChange s.streams)[i] = { s.stream i with
    cap := { (s.stream i).cap with
      fill := none, awaiting := 0, heldWrites := [], abandoned := none
      freshness := .noSignal, timer := none, lastSeq := none }
    acc := { (s.stream i).acc.clearSums with state := .idle } } := mapAll_get ..

theorem State.modeChange_screen (s : State) (c : Fin 2) : (mapAll Screen.modeChange s.comp.screens)[c]
    = { s.screen c with frame := none, kept := none, prevKind := .requested } := mapAll_get ..

/-- Settles O46: membership in the map is read off the three lists of `buildWindows`, and the immediate completion is
`completeCommit`; no slot has two owners, because the third check passed. -/
theorem commitEntersActive : Obligations.CommitEntersActive := by
  refine ⟨fun s => ⟨s.buildWindows_kinds_nodup, fun w => (s.mem_buildWindows w).trans (or_congr_left ?_)⟩, ?_⟩
  · refine exists_congr fun i => ⟨?_, ?_⟩
    · rintro ⟨role, rfl⟩
      obtain ⟨whole, covers, least⟩ := roundUp4K_eq_iff.1 (rfl : roundUp4K (frameSizeOf (s.stream i).cfg.w (s.stream i).cfg.h) = _)
      exact ⟨_, role, whole, covers, least, rfl⟩
    · rintro ⟨extent, role, whole, covers, least, rfl⟩
      refine ⟨role, ?_⟩
      rw [roundUp4K_eq_iff.2 ⟨whole, covers, least⟩]
      rfl
  · intro s hears inactive passed reads writes waiting
    have apart := (s.commitFailure_eq_none_iff.1 passed).2.2.1
    refine ⟨_, (exec_commit_of_passed hears inactive passed).trans (congrArg Host.Outcome.next
      ((State.startMode_settled _ reads writes waiting).trans (State.completeCommit_eq _))), rfl, rfl,
      s.modeChange_stream, rfl, fun i => replicate_get 16 [] i, rfl, rfl, rfl, rfl, rfl, fun n x found => ?_, rfl,
      s.modeChange_screen, rfl, rfl, rfl, rfl, ?_, rfl, rfl⟩
    · refine ⟨ownerAtCommit s.streams n, (s.pool.committed_slots s.streams n).trans (by rw [found]; rfl),
        fun i role mem => ownerAtCommit_eq_some role mem fun j differ role' => apart i j n differ role role' mem,
        fun none => ownerAtCommit_eq_none none⟩
    · exact if_neg fun ⟨_, _, live⟩ => live.elim nofun fun ⟨_, from_active⟩ => inactive from_active

/-- A dump abandoned leaves no dump request that anything waits for. -/
theorem State.dumpAbandon_requests (s : State) :
    ∀ r ∈ s.dumpAbandon.transit.downWaiting ++ s.dumpAbandon.transit.downIssued, r.owner ≠ .dump false := by
  intro r mem
  rcases List.mem_append.1 mem with mem | mem
  · obtain ⟨-, kept⟩ := List.mem_filter.1 mem
    intro owner
    simp [owner] at kept
  · obtain ⟨x, -, rfl⟩ := List.mem_map.1 mem
    split
    · simp
    · rename_i other
      exact other false

/-- Settles O47: the immediate completion is `completeReturn` or `completeSoftReset`. -/
theorem returnAndSoftResetLeaveActive : Obligations.ReturnAndSoftResetLeaveActive := by
  intro s hears reads writes waiting
  refine ⟨fun active noGroup => ?_, ?_⟩
  · have noNotice : (s.startMode .returnToPass).discardNotices = s.notices := by
      show s.holds.groups.foldl _ s.notices = s.notices
      rw [noGroup]
      rfl
    refine ⟨_, (exec_returnToPass_of_no_group hears active noGroup).trans (congrArg Host.Outcome.next
      ((State.startMode_settled _ reads writes waiting).trans (State.completeReturn_eq _))), ?_, rfl,
      s.modeChange_stream, rfl, s.pool.emptied_slots, rfl, rfl, rfl, rfl, rfl, fun i => replicate_get 16 [] i, rfl, rfl,
      s.modeChange_screen, rfl, rfl, rfl, rfl, fun exact_ => ?_⟩
    · simp only [State.finishDrain, State.withLines, State.startMode, active]
    · have flag := exact_ hears.1
      refine ⟨?_, ?_⟩
      · refine Eq.trans (if_neg ?_) noNotice
        rintro ⟨set, clear, -⟩
        rw [show s.lines.hidden = false from clear] at flag
        rw [show s.lines.reverseIsHidden = true from set] at flag
        cases flag
      · show ({ s.lines with hidden := s.lines.reverseIsHidden } : LineMonitor) = s.lines
        rw [← flag]
  · refine ⟨_, (exec_softReset_of_hears hears).trans (congrArg Host.Outcome.next
      ((State.startMode_settled _ reads writes waiting).trans (State.completeSoftReset_eq _))), rfl, rfl, rfl,
      (s.startMode .softReset).dumpAbandon_requests, rfl, fun i => ?_, rfl, s.pool.emptied_slots, rfl, rfl, rfl, rfl, rfl,
      fun i => replicate_get 16 [] i, rfl, rfl, fun c => mapAll_get .., rfl, rfl, rfl, fun l => replicate_get 15 _ l,
      fun x => replicate_get 2 _ x, rfl, rfl, rfl, rfl, rfl, rfl⟩
    have stream : (mapAll Stream.softReset s.streams)[i] = (s.stream i).softReset := mapAll_get ..
    have cfg := congrArg Stream.cfg stream
    have acc := congrArg Stream.acc stream
    exact ⟨cfg, congrArg Stream.cap stream, congrArg Accumulators.state acc,
      congrArg Accumulators.skipped acc, congrArg Accumulators.lastOffered acc, congrArg Accumulators.lastComplete acc,
      congrArg Accumulators.lastIncomplete acc,
      fun k => (congrArg (fun x : Stream => x.tiles[k]) stream).trans (replicate_get 48 _ k), congrArg Stream.lens stream⟩

end Sys2Proof.Machine
end

section
/-! PROOFS. The Slot Pool's operations on one record (R47 to R55), and the Hold Table: a hold made or refused, RELEASE,
REVIEW and the auto-release (R148 to R158). -/

namespace Sys2Proof.Machine

/-! ### Where a slot stands after a change of its record (R47) -/

section OneRecord
variable {p : SlotPool} {n : Nat} {x : Slot} {f : Slot → Slot}

theorem SlotPool.mem_free_iff (exact_ : p.FreeListExact) (found : p.slots[n]? = some x) :
    n ∈ p.free ↔ x.available = true := by
  rw [exact_.2, found, Slot.available_iff]
  simp

theorem SlotPool.update_slot (found : p.slots[n]? = some x) : (p.update n f).slots[n]? = some (f x) := by
  rw [p.update_slots, if_pos rfl, found]
  rfl

/-- A slot that is not available after the change is not in the list. -/
theorem SlotPool.update_free_leaves (exact_ : p.FreeListExact) (found : p.slots[n]? = some x)
    (gone : (f x).available = false) : (p.update n f).free = p.free.erase n := by
  rw [p.update_free, found]
  cases before : x.available with
  | true => simp [gone, before]
  | false =>
    have apart : n ∉ p.free := by rw [SlotPool.mem_free_iff exact_ found, before]; simp
    simp [gone, before, List.erase_of_not_mem apart]

/-- A slot that was not available joins the tail when the change makes it so. -/
theorem SlotPool.update_free_joins (found : p.slots[n]? = some x) (before : x.available = false) :
    (p.update n f).free = if (f x).available = true then p.free ++ [n] else p.free := by
  rw [p.update_free, found]
  simp [before]

/-- A change that moves nothing the free list depends on moves no list. -/
theorem SlotPool.update_free_stays (found : p.slots[n]? = some x) (same : (f x).available = x.available) :
    (p.update n f).free = p.free := by
  rw [p.update_free, found]
  cases before : x.available <;> simp [same, before]

theorem SlotPool.update_of_none (missing : p.slots[n]? = none) : p.update n f = p := by
  rw [SlotPool.update, missing]

end OneRecord

/-- Settles O15: each operation is one `update`, so `update_exact` and `update_frame` hold of all five; what is left is
whether the record was, and is, available. -/
theorem slotOperationsMoveTheFreeList : Obligations.SlotOperationsMoveTheFreeList := by
  intro p n group exact_
  have updated (f : Slot → Slot) : (p.update n f).FreeListExact ∧ (p.update n f).isSet = p.isSet
      ∧ (p.update n f).base = p.base ∧ (p.update n f).review = p.review ∧ (p.update n f).size = p.size
      ∧ (p.update n f).count = p.count ∧ (p.update n f).content = p.content
      ∧ (∀ m, m ≠ n → (p.update n f).slots[m]? = p.slots[m]?) ∧ (p.slots[n]? = none → p.update n f = p) := by
    obtain ⟨isSet, base, review, size, count, content⟩ := p.update_frame n f
    exact ⟨p.update_exact exact_ n f, isSet, base, review, size, count, content,
      fun m differ => by rw [p.update_slots, if_neg differ.symm], SlotPool.update_of_none⟩
  refine ⟨?_, fun x found => ⟨⟨?_, ?_⟩, fun pinned => ⟨?_, ?_⟩, fun filling => ⟨?_, ?_⟩, ⟨?_, ?_⟩, ?_, ?_⟩⟩
  · simp only [List.forall_mem_cons, List.not_mem_nil, false_implies, implies_true, and_true]
    exact ⟨updated _, updated _, updated _, updated _, updated _⟩
  · exact SlotPool.update_slot found
  · exact SlotPool.update_free_leaves exact_ found (by simp [Slot.available, Slot.pin])
  · refine (SlotPool.update_slot found).trans (congrArg some ?_)
    have last : x.pins - 1 = 0 ↔ x.pins = 1 := by omega
    simp only [Slot.unpin, last]
  · refine (SlotPool.update_free_joins found (by simp [Slot.available, Nat.one_le_iff_ne_zero.1 pinned])).trans ?_
    have last : x.pins - 1 = 0 ↔ x.pins = 1 := by omega
    refine if_congr ?_ rfl rfl
    rw [Slot.available_iff]
    simp only [Slot.unpin, last]
    by_cases one : x.pins = 1 <;> by_cases retired : x.life = .retired <;> simp [one, retired]
  · exact SlotPool.update_slot found
  · refine (SlotPool.update_free_joins found (by simp [Slot.available, filling])).trans (if_congr ?_ rfl rfl)
    rw [Slot.available_iff]
    simp [Slot.clearContent]
  · exact SlotPool.update_slot found
  · exact SlotPool.update_free_leaves exact_ found (by simp [Slot.available])
  · exact SlotPool.update_slot found
  · by_cases held : x.hold = none
    · rw [if_neg fun h => h.1 held]
      exact SlotPool.update_free_stays found (by simp [Slot.available, held])
    · refine (SlotPool.update_free_joins found (by simp [Slot.available, held])).trans (if_congr ?_ rfl rfl)
      rw [Slot.available_iff]
      simp [held]

/-! ### Candidates and unheld slots (R49) -/

theorem SlotPool.record_of_some {p : SlotPool} {n : Nat} {x : Slot} (found : p.slots[n]? = some x) : p.record n = x := by
  rw [SlotPool.record, found, Option.getD_some]

/-- A slot is no candidate exactly when its record is held. -/
theorem SlotPool.record_held_iff (p : SlotPool) (n : Nat) :
    (p.record n).hold ≠ none ↔ ∃ x, p.slots[n]? = some x ∧ x.hold ≠ none := by
  cases found : p.slots[n]? with
  | none => simp [SlotPool.record, found, Slot.fresh]
  | some x => simp [SlotPool.record_of_some found]

theorem SlotPool.unheldCount_cons (p : SlotPool) (n : Nat) (l : List Nat) : p.unheldCount (n :: l)
    = p.unheldCount l + if (∃ x, p.slots[n]? = some x ∧ x.hold = none) then 1 else 0 := by
  unfold SlotPool.unheldCount
  rw [List.filter_cons]
  cases found : p.slots[n]? with
  | none => simp
  | some x => by_cases held : x.hold = none <;> simp [held]

/-! ### The decision on a hold (R148, R150) -/

theorem HoldTable.hasId_iff (t : HoldTable) (k : Nat) :
    t.groups.any (fun g => decide (g.id = k)) = true ↔ ∃ g ∈ t.groups, g.id = k := by simp

theorem HoldTable.freeId_eq_none {t : HoldTable} (taken : ∀ k, 1 ≤ k → k ≤ 8 → ∃ g ∈ t.groups, g.id = k) :
    t.freeId = none := by
  refine List.find?_eq_none.2 fun k mem => ?_
  obtain ⟨low, high⟩ := List.mem_range'_1.1 mem
  simp only [Config.holdCapacity] at high
  simpa using taken k low (by omega)

theorem State.freeId_of_lowest {s : State} {id : Nat} (lowest : s.LowestFreeId id) : s.holds.freeId = some id := by
  obtain ⟨low, high, free, below⟩ := lowest
  unfold HoldTable.freeId
  rw [List.find?_eq_some_iff_append]
  refine ⟨by simpa using free, List.range' 1 (id - 1), List.range' (id + 1) (8 - id), ?_, fun k mem => ?_⟩
  · rw [← List.range'_succ, show List.range' id (8 - id + 1) = List.range' (1 + 1 * (id - 1)) (8 - id + 1) from by
      congr 1; omega, List.range'_append]
    congr 1
    simp only [Config.holdCapacity]
    omega
  · obtain ⟨from_one, to_id⟩ := List.mem_range'_1.1 mem
    simpa using below k from_one (by omega)

theorem State.decideHold_of_none {s : State} (i : Fin 16) (pre : Nat) (none : s.holds.freeId = none) :
    s.decideHold i pre = .refused 1 := by
  simp only [State.decideHold, none]

theorem State.decideHold_of_zero {s : State} {i : Fin 16} {pre id : Nat} (free : s.holds.freeId = some id)
    (zero : s.holdSize i pre = 0) : s.decideHold i pre
      = .refused (if s.pool.candidates i = [] then 2 else if 8 ≤ s.holds.total then 3 else 4) := by
  simp only [State.decideHold, free]
  refine (if_pos zero).trans ?_
  by_cases empty : s.pool.candidates i = []
  · rw [if_pos (by simp [empty]), if_pos empty]
  · rw [if_neg (by simpa using empty), if_neg empty]
    exact (apply_ite HoldDecision.refused _ _ _).symm

theorem State.decideHold_of_pos {s : State} {i : Fin 16} {pre id : Nat} (free : s.holds.freeId = some id)
    (pos : 0 < s.holdSize i pre) : s.decideHold i pre = .made id (s.holdSize i pre) := by
  simp only [State.decideHold, free]
  exact if_neg pos.ne'

theorem State.decideHold_of_refused {s : State} {i : Fin 16} {pre code : Nat} (refused : s.HoldRefused i pre code) :
    s.decideHold i pre = .refused code := by
  obtain ⟨taken, rfl⟩ | ⟨⟨id, lowest⟩, zero, rfl⟩ := refused
  · exact State.decideHold_of_none i pre (HoldTable.freeId_eq_none taken)
  · exact State.decideHold_of_zero (State.freeId_of_lowest lowest) zero

/-! ### What a hold leaves (R55, R150) -/

theorem SlotPool.holdAll_content (p : SlotPool) (g : Nat) (l : List Nat) : (p.holdAll g l).content = p.content := by
  unfold SlotPool.holdAll
  induction l generalizing p with
  | nil => rfl
  | cons n l ih => exact (ih _).trans (p.update_content n _)

theorem SlotPool.holdAll_slots (p : SlotPool) (g : Nat) (l : List Nat) (m : Nat) : (p.holdAll g l).slots[m]? =
    if m ∈ l then (p.slots[m]?).map (fun x => { x with hold := some g }) else p.slots[m]? := by
  unfold SlotPool.holdAll
  induction l generalizing p with
  | nil => rfl
  | cons n l ih =>
    rw [List.foldl_cons, ih, SlotPool.holdFor, p.update_slots]
    by_cases same : n = m
    · subst same
      by_cases again : n ∈ l <;> simp [again, Function.comp_def]
    · simp [same, Ne.symm same]

/-- A group made: its slots held, the group last in the table, and its notices. -/
def State.withGroup (s : State) (cause : Cause) (i : Fin 16) (pre post id h : Nat) : State :=
  { s with
    pool := s.pool.holdAll id ((s.pool.candidates i).take h)
    holds := { s.holds with groups := s.holds.groups
      ++ [⟨id, cause, i, s.time, ((s.pool.candidates i).take h).reverse, post⟩] }
    notices := if h < pre
      then (s.notices.take s.time .holdMade id (256 * i.val + h)).take s.time .holdClamped id (pre - h)
      else s.notices.take s.time .holdMade id (256 * i.val + h) }

theorem State.makeHold_of_refused {s : State} {cause : Cause} {i : Fin 16} {pre post code : Nat}
    (decided : s.decideHold i pre = .refused code) :
    s.makeHold cause i pre post = { s with notices := s.notices.take s.time .holdRefused i.val code } := by
  simp only [State.makeHold, decided]
  rfl

theorem State.makeHold_of_made {s : State} {cause : Cause} {i : Fin 16} {pre post id h : Nat}
    (decided : s.decideHold i pre = .made id h) : s.makeHold cause i pre post = s.withGroup cause i pre post id h := by
  simp only [State.makeHold, decided, State.withGroup]
  split <;> rfl

theorem State.withGroup_made (s : State) (cause : Cause) (i : Fin 16) (pre post id h : Nat) :
    s.HoldMade (s.withGroup cause i pre post id h) cause i pre post id h :=
  ⟨rfl, fun n => s.pool.holdAll_slots id _ n, s.pool.holdAll_content id _, rfl, rfl, rfl, rfl, rfl⟩

/-- One hold is decided as R150 has it. -/
theorem State.makeHold_decided (s : State) (cause : Cause) (i : Fin 16) (pre post : Nat) :
    s.HoldDecided (s.makeHold cause i pre post) cause i pre post := by
  refine ⟨fun code refused => State.makeHold_of_refused (State.decideHold_of_refused refused), fun id lowest pos => ?_⟩
  rw [State.makeHold_of_made (State.decideHold_of_pos (State.freeId_of_lowest lowest) pos)]
  exact ⟨s.withGroup_made cause i pre post id _, rfl, rfl, rfl, rfl, rfl⟩

/-! ### HOLD (R151) -/

/-- A parameter of one byte. -/
theorem field_byte (pre : List Byte) (b : Byte) (post : List Byte) : field (pre ++ b :: post) pre.length 1 = b.toNat := by
  simp [field, leValue]

theorem fields_three (a b c : Byte) :
    field [a, b, c] 0 1 = a.toNat ∧ field [a, b, c] 1 1 = b.toNat ∧ field [a, b, c] 2 1 = c.toNat :=
  ⟨field_byte [] a [b, c], field_byte [a] b [c], field_byte [a, b] c []⟩

/-- A number below 16 is sent in one byte as it stands. -/
theorem streamByte_toNat (i : Fin 16) : (BitVec.ofNat 8 i.val).toNat = i.val := by
  rw [BitVec.toNat_ofNat]
  omega

section Hold
variable {s : State} {i : Fin 16} {pre post : Byte}

/-- HOLD of an existing stream: STATE outside ACTIVE, else the decision on the hold. -/
theorem exec_hold_of_stream (hears : s.hears) (i : Fin 16) (pre post : Byte) :
    exec (.hold (frameOf [BitVec.ofNat 8 i.val, pre, post])) s = .next (
      if s.transit.mode ≠ .active then s.responds 5 .state []
      else match s.decideHold i (min 4 (max 1 pre.toNat)) with
        | .refused code =>
          ({ s with notices := s.notices.take s.time .holdRefused i.val code } : State).responds 5 .limit []
        | .made id h => (s.withGroup .command i (min 4 (max 1 pre.toNat)) (min 3 post.toNat) id h).responds 5 .done
            [BitVec.ofNat 8 id, BitVec.ofNat 8 h]) := by
  obtain ⟨stream, first, second⟩ := fields_three (BitVec.ofNat 8 i.val) pre post
  refine congrArg Host.Outcome.next ((State.request_frameOf hears rfl (by simp) _).trans ?_)
  simp only [State.doHold, stream, first, second, streamByte_toNat, index?_val, clamp, Nat.zero_max, State.driveZeros_transit]
  split
  · rfl
  · have same : (s.driveZeros (frameOf [BitVec.ofNat 8 i.val, pre, post])).decideHold i (min 4 (max 1 pre.toNat))
      = s.decideHold i (min 4 (max 1 pre.toNat)) := rfl
    cases decided : s.decideHold i (min 4 (max 1 pre.toNat)) with
    | refused code =>
      rw [decided] at same
      simp only [same, State.makeHold_of_refused same]
      rfl
    | made id h =>
      rw [decided] at same
      simp only [same, State.makeHold_of_made same]
      rfl

theorem exec_hold_of_no_stream {n : Byte} (hears : s.hears) (above : 15 < n.toNat) :
    exec (.hold (frameOf [n, pre, post])) s = .next (s.responds 5 .badParam []) := by
  obtain ⟨stream, -, -⟩ := fields_three n pre post
  refine congrArg Host.Outcome.next ((State.request_frameOf hears rfl (by simp) _).trans ?_)
  simp only [State.doHold, stream, index?_eq_none.2 (show 16 ≤ n.toNat by omega)]
  rfl

end Hold

/-- Settles O32: the decision is that of `decideHold`, which finds the lowest free id and the number of frames; the counts
of R49 are filters of the two lists. -/
theorem holdIsMadeOrRefused : Obligations.HoldIsMadeOrRefused := by
  refine ⟨fun s i pre post p z hears hp hz => ?_, fun s n pre post hears above => exec_hold_of_no_stream hears above,
    fun p => ⟨fun i n => ⟨List.filter_sublist, ?_, ?_⟩, rfl, fun n l => ⟨?_, ?_⟩⟩⟩
  · subst hp hz
    have run := exec_hold_of_stream hears i pre post
    refine ⟨fun inactive => run.trans (congrArg Host.Outcome.next (if_pos inactive)), fun active => ?_⟩
    rw [if_neg (not_not.2 active)] at run
    refine ⟨fun id lowest pos => ?_, fun code refused => ?_⟩
    · rw [State.decideHold_of_pos (State.freeId_of_lowest lowest) pos] at run
      exact ⟨_, run, s.withGroup_made .command i _ _ id _, rfl, rfl, rfl⟩
    · rw [State.decideHold_of_refused refused] at run
      exact run
  · intro held mem
    simpa using absurd (of_decide_eq_true (List.mem_filter.1 mem).2) ((p.record_held_iff n).2 held)
  · intro unheld
    have clear : (p.record n).hold = none := by
      by_contra held
      exact unheld ((p.record_held_iff n).1 held)
    rw [SlotPool.candidates, List.count_filter (by simpa using clear)]
  · intro counts
    rw [p.unheldCount_cons, if_pos counts]
  · intro skips
    rw [p.unheldCount_cons, if_neg skips, Nat.add_zero]

/-! ### RELEASE and REVIEW (R155, R156) -/

theorem HoldTable.group?_eq_none {t : HoldTable} {id : Nat} (none : ∀ g ∈ t.groups, g.id ≠ id) : t.group? id = .none :=
  List.find?_eq_none.2 fun g mem => by simpa using none g mem

theorem HoldTable.group?_eq_some {t : HoldTable} {pre post : List Group} {g : Group} (groups : t.groups = pre ++ g :: post)
    (before : ∀ y ∈ pre, y.id ≠ g.id) : t.group? g.id = some g := by
  rw [HoldTable.group?, groups, List.find?_append, List.find?_eq_none.2 fun y mem => by simpa using before y mem]
  simp

/-- Settles O33: the group of an id is the first of the table with it, and both commands act on that group. -/
theorem releaseAndReview : Obligations.ReleaseAndReview := by
  refine ⟨fun s id hears => ⟨fun none => ?_, fun pre post g groups own others => ?_⟩,
    fun s id index flag hears => ⟨fun none => ?_, fun pre post g groups own before => ?_⟩⟩
  · refine congrArg Host.Outcome.next ((State.request_frameOf (ps := [id]) hears rfl (by simp) _).trans ?_)
    simp only [State.doRelease, show field [id] 0 1 = id.toNat from field_byte [] id [], State.driveZeros_holds,
      HoldTable.group?_eq_none none]
    rfl
  · have found := HoldTable.group?_eq_some groups fun y mem => own ▸ others y (List.mem_append_left _ mem)
    have rest : s.holds.groups.filter (fun y => !decide (y.id = g.id)) = pre ++ post := by
      have kept (y : Group) (mem : y ∈ pre ++ post) : (!decide (y.id = g.id)) = true := by
        simpa [own] using others y mem
      rw [groups, List.filter_append, List.filter_cons_of_neg (by simp),
        List.filter_eq_self.2 fun y mem => kept y (List.mem_append_left _ mem),
        List.filter_eq_self.2 fun y mem => kept y (List.mem_append_right _ mem)]
    refine congrArg Host.Outcome.next ((State.request_frameOf (ps := [id]) hears rfl (by simp) _).trans ?_)
    simp only [State.doRelease, show field [id] 0 1 = id.toNat from field_byte [] id [], State.driveZeros_holds, ← own, found,
      State.releaseGroup, ← rest]
    rfl
  · refine congrArg Host.Outcome.next ((State.request_frameOf (ps := [id, index, flag]) hears rfl (by simp) _).trans ?_)
    simp only [State.doReview, (fields_three id index flag).1, State.driveZeros_holds, HoldTable.group?_eq_none none]
    rfl
  · obtain ⟨idAt, indexAt, flagAt⟩ := fields_three id index flag
    have found := HoldTable.group?_eq_some groups fun y mem => own ▸ before y mem
    rw [own] at found
    refine ⟨fun beyond => ?_, fun n slot => ?_⟩
    · refine congrArg Host.Outcome.next ((State.request_frameOf (ps := [id, index, flag]) hears rfl (by simp) _).trans ?_)
      simp only [State.doReview, idAt, indexAt, State.driveZeros_holds, found, List.getElem?_eq_none beyond]
      rfl
    · have set : (flag.toNat != 0) = decide (flag ≠ 0) := by
        rw [bne, Bool.eq_iff_iff]
        simp [← BitVec.toNat_inj]
      refine congrArg Host.Outcome.next ((State.request_frameOf (ps := [id, index, flag]) hears rfl (by simp) _).trans ?_)
      simp only [State.doReview, idAt, indexAt, flagAt, State.driveZeros_holds, found, slot, set, own]
      rfl

/-! ### The auto-release (R158) -/

section AutoRelease
variable {x : ReadTxn} {mapping : Option Mapping} {n slot o size serial : Nat} {auto : Bool}

theorem autoReleases_eq_none (service : x.service = .review slot o size serial auto)
    (h : auto = false ∨ (∀ m, mapping = some m → m.serial ≠ serial) ∨ ¬(o < size ∧ size ≤ o + 16 * x.req.beats)
      ∨ (∃ b ∈ x.beats, b.resp = .error)) : autoReleases mapping x = none := by
  unfold autoReleases
  split
  · rename_i m _ offset size' serial' auto' isReview
    obtain ⟨-, rfl, rfl, rfl, rfl⟩ := ReadService.review.inj (service.symm.trans isReview)
    refine if_neg fun ⟨set, same, starts, reaches, okay⟩ => ?_
    rcases h with clear | other | short | ⟨b, mem, error⟩
    · rw [set] at clear; cases clear
    · exact other m rfl same
    · exact short ⟨starts, reaches⟩
    · have := List.all_eq_true.1 okay b mem
      simp [error] at this
  · rfl

theorem autoReleases_eq_some {m : Mapping} (service : x.service = .review m.slot o size m.serial true) (starts : o < size)
    (reaches : size ≤ o + 16 * x.req.beats) (okay : ∀ b ∈ x.beats, b.resp = .okay) : autoReleases (some m) x = some m := by
  simp only [autoReleases, service]
  exact if_pos ⟨trivial, trivial, starts, reaches, List.all_eq_true.2 fun b mem => decide_eq_true (okay b mem)⟩

end AutoRelease

/-- Settles O34: the read is returned as any other served from a slot; then `autoReleases` decides. -/
theorem reviewReadAutoReleases : Obligations.ReviewReadAutoReleases := by
  intro s id pre post x n o size auto reads before own service complete mode nobody t taken
  subst taken
  have ready : x.ready = true := by simp [ReadTxn.ready, service, complete]
  have answer : x.answer = x.beats := by simp [ReadTxn.answer, service]
  have returned : exec (.answerReturned .read id) s = .next { s.readReturned x with transit := { s.transit with
      reads := pre ++ post, lastAnswer := some (.read id x.beats) } } := by
    refine congrArg Host.Outcome.next ((State.returnRead_ready reads before own ready).trans ?_)
    rw [State.settlePort_idle (by exact mode) (by exact nobody), answer]
  refine ⟨fun kept => returned.trans ?_, fun m mapped set same starts reaches okay => returned.trans ?_⟩
  · simp only [State.readReturned, service, autoReleases_eq_none service kept]
    rfl
  · subst same set
    simp only [State.readReturned, service, mapped, autoReleases_eq_some service starts reaches okay]
    rfl

end Sys2Proof.Machine
end

section
/-! PROOFS. Request and RESPONSE frames (R173 to R175); the settings of the notice queue and TAKE NOTICES (R166 to R170);
SET SOILING and RESET BASELINE (R76, R92). -/

namespace Sys2Proof.Machine

/-! ### Parameters of one byte among those of more -/

theorem field_cons (b : Byte) (l : List Byte) : field (b :: l) 0 1 = b.toNat := field_byte [] b l

theorem field_cons_skip (b : Byte) (l : List Byte) (n : Nat) {off : Nat} (h : 1 ≤ off) :
    field (b :: l) off n = field l (off - 1) n := by
  obtain ⟨k, rfl⟩ := Nat.exists_eq_add_of_le' h
  rfl

theorem leBytes_one (v : Nat) : leBytes 1 v = [BitVec.ofNat 8 v] := rfl

theorem byte_ne_zero (b : Byte) : (b.toNat != 0) = decide (b ≠ 0) := by
  rw [Bool.eq_iff_iff]
  simp [← BitVec.toNat_inj]

/-! ### Request frames by their form (R173, R175, R184) -/

/-- Every request command hands its frame to `request`, with the length of the table of section 11.2. -/
theorem exec_request {c : Instr} {body : List Byte} (h : requestBody c = some body) :
    ∃ (lenOk : Nat → Bool) (k : List Byte → State → State), (∀ s, exec c s = .next (s.request lenOk body k))
      ∧ ∀ n, parameterLength c = some n → lenOk = takes n := by
  cases c <;> simp only [requestBody, reduceCtorEq, Option.some.injEq] at h <;> subst h <;>
    exact ⟨_, _, fun _ => rfl, fun n len => by simp [parameterLength] at len; try exact len ▸ rfl⟩

theorem checkFrame_nil (lenOk : Nat → Bool) : checkFrame lenOk [] = none := rfl

theorem checkFrame_cons_eq_none {lenOk : Nat → Bool} {l : Byte} {ps : List Byte}
    (h : l.toNat ≠ ps.length ∨ 250 < l.toNat ∨ lenOk ps.length = false) : checkFrame lenOk (l :: ps) = none :=
  if_neg fun ⟨same, small, ok⟩ => by
    rcases h with h | h | h
    · exact h same
    · omega
    · rw [h] at ok; cases ok

/-- SET LAYOUT refuses a frame whose length is not that of its pane count. -/
theorem State.doSetLayout_of_length (s : State) {ps : List Byte} (h : ps.length < 5 ∨ ps.length ≠ 5 + 15 * field ps 4 1) :
    s.doSetLayout ps = s.refuse .badParam := by
  unfold State.doSetLayout
  split
  · exact if_pos (by omega)
  · rfl

theorem exec_setLayout (body : List Byte) (s : State) :
    exec (.setLayout body) s = .next (s.request (fun _ => true) body State.doSetLayout) := rfl

theorem field_of_getElem? {ps : List Byte} {off : Nat} {n : Byte} (h : ps[off]? = some n) : field ps off 1 = n.toNat := by
  obtain ⟨small, rfl⟩ := List.getElem?_eq_some_iff.1 h
  rw [field, List.drop_eq_getElem_cons small]
  rfl

/-! ### RESPONSE (R174) -/

theorem clockOut_length (n : Nat) (l : List Byte) : (clockOut n l).length = n := by
  induction n generalizing l with
  | zero => rfl
  | succ n ih => cases l <;> simp [clockOut, ih]

/-- A frame carries what the buffer offers, and zeros behind it. -/
theorem clockOut_getElem? {n k : Nat} (h : k < n) (l : List Byte) : (clockOut n l)[k]? = some ((l[k]?).getD 0) := by
  induction n generalizing l k with
  | zero => omega
  | succ n ih =>
    cases l with
    | nil =>
      cases k with
      | zero => rfl
      | succ k => exact ih (by omega) []
    | cons x xs =>
      cases k with
      | zero => rfl
      | succ k => exact ih (by omega) xs

theorem Buffer.bytes_getElem? (b : Buffer) (k : Nat) : (b.bytes[k]?).getD 0 = match b with
    | .empty => if k = 1 then 0xFF else 0
    | .pending _ => if k = 1 then 2 else 0
    | .ready st data => if k = 1 then BitVec.ofNat 8 st.code else if k = 2 then BitVec.ofNat 8 data.length
        else if 3 ≤ k then (data[k - 3]?).getD 0 else 0 := by
  match b, k with
  | .empty, 0 | .empty, 1 | .empty, 2 | .empty, k + 3 => rfl
  | .pending c, 0 | .pending c, 1 | .pending c, 2 | .pending c, k + 3 => rfl
  | .ready st data, 0 | .ready st data, 1 | .ready st data, 2 => rfl
  | .ready st data, k + 3 => simp [Buffer.bytes]

theorem State.refuseCode_of_hears {s : State} (hears : s.hears) : s.refuseCode = s.responds 1 .badCode [] := by
  obtain ⟨out, free⟩ := hears
  unfold State.refuseCode
  rw [if_neg (by simp [out])]
  split
  · rename_i c pending
    exact absurd pending (free c)
  · rfl

theorem State.refuseCode_of_pending {s : State} {p : Change} (out : s.inReset = false) (pending : s.port.buffer = .pending p) :
    s.refuseCode = s.driveZeros [] := by
  simp [State.refuseCode, out, pending]

/-- Settles O38: every request goes through `request`, whose cases the frame's form decides; RESPONSE clocks out what the
buffer offers. -/
theorem framesAreTakenByTheirForm : Obligations.FramesAreTakenByTheirForm := by
  refine ⟨fun c s body isRequest => ?_, fun s n pos out => ?_, fun s => ⟨rfl, fun code unknown => ?_⟩⟩
  · obtain ⟨lenOk, k, runs, len⟩ := exec_request isRequest
    refine ⟨fun reset => ?_, fun out p pending => ?_, fun hears => ⟨?_, fun l ps framed bad => ?_⟩⟩
    · rw [runs, s.request_inReset reset]
    · rw [runs, s.request_pending out p pending]
      rfl
    · rintro rfl
      rw [runs, s.request_heard hears, checkFrame_nil]
      rfl
    · subst framed
      have refused (h : l.toNat ≠ ps.length ∨ 250 < l.toNat ∨ lenOk ps.length = false) :
          exec c s = .next (s.responds (ps.length + 2) .badParam []) := by
        rw [runs, s.request_heard hears, checkFrame_cons_eq_none h]
        rfl
      rcases bad with differs | long | ⟨n, takesN, differs⟩ | ⟨rfl, unfit⟩
      · exact refused (.inl differs)
      · exact refused (.inr (.inl long))
      · exact refused (.inr (.inr (by simp [len n takesN, takes, differs])))
      · rw [exec_setLayout, s.request_heard hears]
        have short : ps.length < 5 ∨ ps.length ≠ 5 + 15 * field ps 4 1 := by
          rcases unfit with short | unfit
          · exact .inl short
          · cases fifth : ps[4]? with
            | none => exact .inl (Nat.lt_succ_of_le (List.getElem?_eq_none_iff.1 fifth))
            | some n => exact .inr (field_of_getElem? fifth ▸ unfit n fifth)
        split
        · rfl
        · rename_i ps' checked
          obtain rfl : ps = ps' := by
            unfold checkFrame at checked
            exact Option.some.inj ((Option.ite_none_right_eq_some.1 checked).2)
          rw [State.doSetLayout_of_length _ short]
          rfl
  · refine ⟨clockOut n s.port.buffer.bytes, clockOut_length .., ?_, fun k below => ?_⟩
    · have kept : s.port.buffer.fetched n = match s.port.buffer with
          | .ready st data => if 3 + data.length ≤ n then .empty else .ready st data
          | b => b := by cases s.port.buffer <;> rfl
      refine (if_neg (Nat.one_le_iff_ne_zero.1 pos)).trans (congrArg Host.Outcome.next ((if_neg (by simp [out])).trans ?_))
      exact congrArg (fun b => { s with port := { s.port with buffer := b, miso := clockOut n s.port.buffer.bytes } }) kept
    · exact (clockOut_getElem? below _).trans (congrArg some ((Buffer.bytes_getElem? _ k).trans rfl))
  · have runs : exec (.unknownCommand code) s = .next s.refuseCode :=
      if_neg (by simpa using unknown)
    refine ⟨fun hears => ?_, fun out p pending => ?_, fun reset => ?_⟩
    · rw [runs, State.refuseCode_of_hears hears]
    · rw [runs, State.refuseCode_of_pending out pending]
      rfl
    · exact runs.trans (congrArg Host.Outcome.next (if_pos reset))

/-! ### The notice queue decided anew (R166, R167) -/

section Decided
variable {q : NoticeQueue} {now : Time} {r : Notice} {rs : List Notice}

theorem NoticeQueue.decideLinger_of_nil (empty : q.records = []) :
    q.decideLinger now = { q with due := false, timer := none } := by
  simp only [NoticeQueue.decideLinger, empty]

theorem NoticeQueue.decideLinger_of_waited (oldest : q.records = r :: rs) (waited : q.linger ≤ (now - r.stamp).toNat) :
    q.decideLinger now = { q with due := true, timer := none } := by
  simp only [NoticeQueue.decideLinger, oldest, if_pos waited]

theorem NoticeQueue.decideLinger_of_waiting (oldest : q.records = r :: rs) (waits : (now - r.stamp).toNat < q.linger) :
    q.decideLinger now = { q with due := false, timer := some (r.stamp + BitVec.ofNat 32 q.linger) } := by
  simp only [NoticeQueue.decideLinger, oldest, if_neg waits.not_ge]
  rfl

end Decided

/-- Deciding the linger for the oldest record and driving the line leaves the queue as R166 and R167 have it. -/
theorem NoticeQueue.decided (q : NoticeQueue) (now : Time) : (q.decideLinger now).driveLine.Decided now := by
  refine ⟨fun empty => ?_, fun r rs oldest => ⟨fun waited => ?_, fun waits => ?_⟩⟩
  · rw [NoticeQueue.driveLine_records, NoticeQueue.decideLinger_records] at empty
    rw [NoticeQueue.decideLinger_of_nil empty]
    exact ⟨rfl, rfl, by simp [NoticeQueue.lineCondition, empty]⟩
  · rw [NoticeQueue.driveLine_records, NoticeQueue.decideLinger_records] at oldest
    have linger : (q.decideLinger now).linger = q.linger := by
      obtain ⟨due, timer, same⟩ := q.decideLinger_frame now
      rw [same]
    rw [NoticeQueue.driveLine_linger, linger] at waited
    rw [NoticeQueue.decideLinger_of_waited oldest waited]
    exact ⟨rfl, rfl, (NoticeQueue.lineCondition_iff _).2 ⟨by rw [oldest]; simp, .inr (.inl rfl)⟩⟩
  · rw [NoticeQueue.driveLine_records, NoticeQueue.decideLinger_records] at oldest
    have linger : (q.decideLinger now).linger = q.linger := by
      obtain ⟨due, timer, same⟩ := q.decideLinger_frame now
      rw [same]
    rw [NoticeQueue.driveLine_linger, linger] at waits
    rw [NoticeQueue.decideLinger_of_waiting oldest waits]
    refine ⟨rfl, rfl, (NoticeQueue.lineCondition_iff _).trans ⟨fun ⟨_, holds⟩ => ?_, fun holds => ⟨?_, holds.imp id .inr⟩⟩⟩
    · rcases holds with count | due | immediate
      · exact .inl count
      · cases due
      · exact .inr immediate
    · rw [oldest]; simp

/-- The records and the settings are not touched by it. -/
theorem NoticeQueue.decided_frame (q : NoticeQueue) (now : Time) :
    (q.decideLinger now).driveLine.records = q.records ∧ (q.decideLinger now).driveLine.lost = q.lost
      ∧ (q.decideLinger now).driveLine.enable = q.enable ∧ (q.decideLinger now).driveLine.immediate = q.immediate
      ∧ (q.decideLinger now).driveLine.trigger = q.trigger ∧ (q.decideLinger now).driveLine.linger = q.linger := by
  obtain ⟨due, timer, same⟩ := q.decideLinger_frame now
  rw [same]
  exact ⟨rfl, rfl, rfl, rfl, rfl, rfl⟩

section Notices
variable {s : State}

theorem exec_takeNotices (hears : s.hears) (n : Byte) :
    exec (.takeNotices (frameOf [n])) s
      = .next (({ s with notices := s.notices.drop s.time (min 8 (max 1 n.toNat)) } : State).responds 3 .done
        (leBytes 1 (s.notices.records.take (min 8 (max 1 n.toNat))).length
          ++ (s.notices.records.take (min 8 (max 1 n.toNat))).flatMap Notice.bytes)) := by
  refine congrArg Host.Outcome.next ((State.request_frameOf (ps := [n]) hears rfl (by simp) _).trans ?_)
  simp only [State.doTakeNotices, field_cons]
  rfl

theorem exec_setNotice (hears : s.hears) {trigger linger immediate : Nat} (ht : trigger < 256 ^ 1) (hl : linger < 256 ^ 2)
    (hi : immediate < 256 ^ 4) :
    exec (.setNotice (frameOf (leBytes 1 trigger ++ leBytes 2 linger ++ leBytes 4 immediate))) s
      = .next (({ s with
          notices := s.notices.setTriggers s.time (min 32 (max 1 trigger)) (min 1000 (max 1 linger)) (BitVec.ofNat 21 immediate) }
          : State).responds 9 .done (leBytes 1 (min 32 (max 1 trigger)) ++ leBytes 2 (min 1000 (max 1 linger))
            ++ leBytes 4 (immediate % 2097152))) := by
  have fields : field (leBytes 1 trigger ++ leBytes 2 linger ++ leBytes 4 immediate) 0 1 = trigger
      ∧ field (leBytes 1 trigger ++ leBytes 2 linger ++ leBytes 4 immediate) 1 2 = linger
      ∧ field (leBytes 1 trigger ++ leBytes 2 linger ++ leBytes 4 immediate) 3 4 = immediate := by
    simp only [List.append_assoc, field_leBytes_skip, field_leBytes_append, field_leBytes, ht, hl, hi, Nat.reduceLeDiff,
      Nat.reduceSub, le_refl, and_self]
  obtain ⟨triggerAt, lingerAt, immediateAt⟩ := fields
  refine congrArg Host.Outcome.next ((State.request_frameOf hears (by simp only [List.length_append, leBytes_length]) (by simp) _).trans ?_)
  simp only [State.doSetNotice, triggerAt, lingerAt, immediateAt]
  rfl

theorem exec_setNoticeMask (hears : s.hears) {value select : Nat} (hv : value < 256 ^ 4) (hs : select < 256 ^ 4) :
    exec (.setNoticeMask (frameOf (leBytes 4 value ++ leBytes 4 select))) s
      = .next (({ s with notices := { s.notices with
          enable := maskedChange s.notices.enable (BitVec.ofNat 21 value) (BitVec.ofNat 21 select) } } : State).responds
        10 .done (leBytes 4 (maskedChange s.notices.enable (BitVec.ofNat 21 value) (BitVec.ofNat 21 select)).toNat)) := by
  have fields : field (leBytes 4 value ++ leBytes 4 select) 0 4 = value
      ∧ field (leBytes 4 value ++ leBytes 4 select) 4 4 = select := by
    simp only [field_leBytes_skip, field_leBytes_append, field_leBytes, hv, hs, Nat.reduceSub, le_refl, and_self]
  obtain ⟨valueAt, selectAt⟩ := fields
  refine congrArg Host.Outcome.next ((State.request_frameOf hears (by simp only [List.length_append, leBytes_length]) (by simp) _).trans ?_)
  simp only [State.doSetNoticeMask, valueAt, selectAt]
  rfl

end Notices

/-- Each bit of the mask is the value's where it is selected, and stands where it is not. -/
theorem maskedChange_getLsbD (old : BitVec 21) (value select : Nat) {n : Nat} (h : n < 21) :
    (maskedChange old (BitVec.ofNat 21 value) (BitVec.ofNat 21 select)).getLsbD n
      = if select.testBit n then value.testBit n else old.getLsbD n := by
  simp only [maskedChange, BitVec.getLsbD_or, BitVec.getLsbD_and, BitVec.getLsbD_not, BitVec.getLsbD_ofNat, h,
    decide_true, Bool.true_and]
  cases select.testBit n <;> simp

/-- Settles O37: TAKE NOTICES and SET NOTICE both end in `decideLinger` and `driveLine`. -/
theorem noticesAreTakenAndSet : Obligations.NoticesAreTakenAndSet := by
  refine ⟨fun s n hears => ⟨fun empty => ?_, fun full taken rest first split => ?_⟩,
    ⟨fun s trigger linger immediate hears ht hl hi => ?_, fun s value select hears hv hs => ?_⟩, rfl, fun k => by cases k <;> decide⟩
  · rw [exec_takeNotices hears, NoticeQueue.drop, if_pos (by simp [empty]), empty]
    simp only [List.take_nil]
    rfl
  · have dropped : s.notices.drop s.time (min 8 (max 1 n.toNat))
        = (({ s.notices with records := rest } : NoticeQueue).decideLinger s.time).driveLine := by
      have left : s.notices.records.drop (min 8 (max 1 n.toNat)) = rest := by
        rw [← List.take_append_drop (min 8 (max 1 n.toNat)) s.notices.records, ← first] at split
        exact List.append_cancel_left split
      rw [NoticeQueue.drop, if_neg (by simpa using full), left]
    obtain ⟨records, lost, enable, immediate, trigger, linger⟩ :=
      ({ s.notices with records := rest } : NoticeQueue).decided_frame s.time
    refine ⟨_, (exec_takeNotices hears n).trans ?_, records, lost, enable, immediate, trigger, linger,
      NoticeQueue.decided _ _⟩
    rw [← first, dropped]
    rfl
  · obtain ⟨records, lost, enable, immediate', trigger', linger'⟩ :=
      ({ s.notices with trigger := min 32 (max 1 trigger), linger := min 1000 (max 1 linger), immediate := BitVec.ofNat 21 immediate
        } : NoticeQueue).decided_frame s.time
    refine ⟨_, exec_setNotice hears ht hl hi, trigger', linger', immediate', records, lost, enable, NoticeQueue.decided _ _,
      fun some count => ?_⟩
    exact (NoticeQueue.lineCondition_iff _).2 ⟨some, .inl (trigger'.trans_le count)⟩
  · exact ⟨_, exec_setNoticeMask hears hv hs, fun n below => maskedChange_getLsbD _ _ _ below⟩

/-! ### SET SOILING and RESET BASELINE (R76, R92) -/

/-- The fifteen parameters of SET SOILING. -/
def soilingParameters (low high : Nat) (on off learn adapt : Byte) (suspect soiled : Nat) (dark glare badge : Byte) : List Byte :=
  leBytes 2 low ++ leBytes 2 high ++ [on, off, learn, adapt] ++ leBytes 2 suspect ++ leBytes 2 soiled ++ [dark, glare, badge]

theorem soilingOf_parameters {low high suspect soiled : Nat} (on off learn adapt dark glare badge : Byte)
    (hl : low < 256 ^ 2) (hh : high < 256 ^ 2) (hs : suspect < 256 ^ 2) (hz : soiled < 256 ^ 2) :
    soilingOf (soilingParameters low high on off learn adapt suspect soiled dark glare badge)
      = ⟨low, high, min 15 (max 1 on.toNat), min 15 (max 1 off.toNat), min 32 (max 4 learn.toNat),
        min 8 (max 3 adapt.toNat), suspect, soiled, dark.toNat, glare.toNat, decide (badge ≠ 0)⟩ := by
  simp only [soilingOf, soilingParameters, List.append_assoc, List.cons_append, List.nil_append, field_leBytes_skip,
    field_leBytes_append, field_cons, field_cons_skip, hl, hh, hs, hz, Nat.reduceLeDiff, Nat.reduceSub, le_refl,
    byte_ne_zero, clamp]

theorem Soiling.inconsistent_iff (z : Soiling) : z.inconsistent = true ↔ 1023 < z.low ∨ 1023 < z.high ∨ 256 < z.suspect
    ∨ 256 < z.soiled ∨ z.high ≤ z.low ∨ z.soiled < z.suspect + 16 ∨ z.glare ≤ z.dark := by
  simp only [Soiling.inconsistent, Bool.or_eq_true, decide_eq_true_eq, or_assoc]

theorem exec_setSoiling {s : State} (hears : s.hears) {ps : List Byte} (len : ps.length = 15) :
    exec (.setSoiling (frameOf ps)) s = .next (if (soilingOf ps).inconsistent = true then s.responds 17 .badParam []
      else ({ s with evals := { s.evals with soiling := soilingOf ps } } : State).responds 17 .done (soilingOf ps).bytes) := by
  refine congrArg Host.Outcome.next ((State.request_frameOf hears len (by simp) _).trans ?_)
  have frame : (frameOf ps).length + 1 = 17 := by simp [frameOf, len]
  simp only [State.doSetSoiling]
  split
  · rw [State.driveZeros_refuse, frame]
  · rw [← frame]
    rfl

theorem exec_resetBaseline_of_no_stream {s : State} (hears : s.hears) {n : Byte} (above : 15 < n.toNat) :
    exec (.resetBaseline (frameOf [n])) s = .next (s.responds 3 .badParam []) := by
  refine congrArg Host.Outcome.next ((State.request_frameOf (ps := [n]) hears rfl (by simp) _).trans ?_)
  simp only [State.doResetBaseline, field_cons, index?_eq_none.2 (show 16 ≤ n.toNat by omega)]
  rfl

theorem Evaluator.markDiscard_eq (e : Evaluator) (i : Fin 16) : e.markDiscard i = { e with current := match e.current with
    | none => none
    | some x => some (if x.frame.stream = i then { x with discard := true } else x) } := by
  unfold Evaluator.markDiscard
  cases e.current <;> rfl

theorem State.resetBaselineOf_eq (s : State) (i : Fin 16) : s.resetBaselineOf i = { s with
    streams := modAt s.streams i Stream.relearned
    evals := s.evals.markDiscard i
    notices := if (s.stream i).lens.state = .learning then s.notices
      else s.notices.take s.time .lensChange i.val 0 } := by
  unfold State.resetBaselineOf
  dsimp only
  split <;> rfl

/-- Settles O43: SET SOILING stores the fields it reads unless they are inconsistent; RESET BASELINE is `resetBaselineOf`. -/
theorem soilingAndBaselineCommands : Obligations.SoilingAndBaselineCommands := by
  refine ⟨fun s low high suspect soiled on off learn adapt dark glare badge hears hl hh hs hz body z framed fields => ?_,
    fun s n hears => ⟨exec_resetBaseline_of_no_stream hears, fun i names => ?_⟩⟩
  · subst framed
    have read := (soilingOf_parameters on off learn adapt dark glare badge hl hh hs hz).trans fields.symm
    refine (exec_setSoiling hears (by simp only [List.length_append, leBytes_length]; rfl)).trans (congrArg Host.Outcome.next ?_)
    rw [show soilingOf (leBytes 2 low ++ leBytes 2 high ++ [on, off, learn, adapt] ++ leBytes 2 suspect ++ leBytes 2 soiled
      ++ [dark, glare, badge]) = z from read]
    refine if_congr ?_ rfl ?_
    · rw [z.inconsistent_iff, fields]
    · have bytes : z.bytes = leBytes 2 z.low ++ leBytes 2 z.high ++ [BitVec.ofNat 8 z.persistOn, BitVec.ofNat 8 z.persistOff,
          BitVec.ofNat 8 z.learn, BitVec.ofNat 8 z.adapt] ++ leBytes 2 z.suspect ++ leBytes 2 z.soiled
          ++ [dark, glare, if z.badge = true then 1 else 0] := by
        have darkByte : BitVec.ofNat 8 z.dark = dark := by simp [fields]
        have glareByte : BitVec.ofNat 8 z.glare = glare := by simp [fields]
        simp only [Soiling.bytes, leBytes_one, darkByte, glareByte, List.append_assoc, List.cons_append, List.nil_append]
        rfl
      rw [bytes]
  · refine congrArg Host.Outcome.next ((State.request_frameOf (ps := [n]) hears rfl (by simp) _).trans ?_)
    simp only [State.doResetBaseline, field_cons, names, index?_val, State.resetBaselineOf_eq]
    exact congrArg (fun e => State.responds { s with
      streams := modAt s.streams i Stream.relearned
      evals := e
      notices := if (s.stream i).lens.state = .learning then s.notices
        else s.notices.take s.time .lensChange i.val 0 } 3 .done []) (s.evals.markDiscard_eq i)

end Sys2Proof.Machine
end

section
/-! PROOFS. SET LAYOUT and SELECT LAYOUT (R98 to R100); SET DOOR VIEW, SET REVERSE VIEW and SET HOLD (R134, R142, R153). -/

namespace Sys2Proof.Machine

/-! ### The bytes of a pane (R98) -/

/-- The fifteen bytes of a pane, field by field. -/
def paneBytes (stream sx sy sw sh k dx dy flags : Nat) : List Byte :=
  leBytes 1 stream ++ leBytes 2 sx ++ leBytes 2 sy ++ leBytes 2 sw ++ leBytes 2 sh ++ leBytes 1 k ++ leBytes 2 dx
    ++ leBytes 2 dy ++ leBytes 1 flags

theorem field_append_right (pre l : List Byte) (k n : Nat) : field (pre ++ l) (pre.length + k) n = field l k n := by
  rw [field, field, List.drop_append, List.drop_eq_nil_of_le (by omega), List.nil_append, Nat.add_sub_cancel_left]

section PaneBytes
variable {stream sx sy sw sh k dx dy flags : Nat}

/-- The pane that fifteen bytes name. Its place may be sent in more than two bytes' worth: then what is read is some other
place, which R98 does not judge. -/
theorem paneAt_paneBytes (pre post : List Byte) (hstream : stream < 256 ^ 1) (hsx : sx < 256 ^ 2) (hsy : sy < 256 ^ 2)
    (hsw : sw < 256 ^ 2) (hsh : sh < 256 ^ 2) (hk : k < 256 ^ 1) (hflags : flags < 256 ^ 1) :
    ∃ dx' dy', (dx < 256 ^ 2 → dx' = dx) ∧ (dy < 256 ^ 2 → dy' = dy) ∧
    paneAt (pre ++ (paneBytes stream sx sy sw sh k dx dy flags ++ post)) pre.length = (index? 16 stream).bind fun i =>
      if 3 < flags then none else some ⟨i, sx, sy, sw, sh, k, dx', dy', decide (flags % 2 = 1), decide (2 ≤ flags)⟩ := by
  refine ⟨field (paneBytes stream sx sy sw sh k dx dy flags ++ post) 10 2,
    field (paneBytes stream sx sy sw sh k dx dy flags ++ post) 12 2, fun hdx => ?_, fun hdy => ?_, ?_⟩
  · simp only [paneBytes, List.append_assoc, field_leBytes_skip, field_leBytes_append, hdx, Nat.reduceLeDiff, Nat.reduceSub, le_refl]
  · simp only [paneBytes, List.append_assoc, field_leBytes_skip, field_leBytes_append, hdy, Nat.reduceLeDiff, Nat.reduceSub, le_refl]
  · have fields (off n : Nat) : field (pre ++ (paneBytes stream sx sy sw sh k dx dy flags ++ post)) (pre.length + off) n
        = field (paneBytes stream sx sy sw sh k dx dy flags ++ post) off n := field_append_right pre _ off n
    have first := fields 0 1
    rw [Nat.add_zero] at first
    simp only [paneAt, first, fields]
    simp only [paneBytes, List.append_assoc, field_leBytes_skip, field_leBytes_append, hstream, hsx, hsy, hsw, hsh, hk, hflags,
      Nat.reduceLeDiff, Nat.reduceSub, le_refl]
    cases index? 16 stream <;> rfl

end PaneBytes

/-- A pane's parameters name it. -/
theorem paneAt_parameters (pre post : List Byte) {p : Pane} (hsx : p.sx < 256 ^ 2) (hsy : p.sy < 256 ^ 2) (hsw : p.sw < 256 ^ 2)
    (hsh : p.sh < 256 ^ 2) (hdx : p.dx < 256 ^ 2) (hdy : p.dy < 256 ^ 2) (hk : p.k < 256 ^ 1) :
    paneAt (pre ++ (p.parameters ++ post)) pre.length = some p := by
  obtain ⟨dx, dy, same_dx, same_dy, named⟩ := paneAt_paneBytes pre post (stream := p.stream.val) (dx := p.dx) (dy := p.dy)
    (flags := (if p.mirror = true then 1 else 0) + (if p.badge = true then 2 else 0)) (by omega) hsx hsy hsw hsh hk
    (by split <;> split <;> omega)
  refine named.trans ?_
  rw [same_dx hdx, same_dy hdy, index?_val]
  obtain ⟨stream, sx, sy, sw, sh, k, dx, dy, mirror, badge⟩ := p
  cases mirror <;> cases badge <;> simp

theorem allPresent_map_some {α : Type} (l : List α) : allPresent (l.map some) = some l := by
  induction l with
  | nil => rfl
  | cons x xs ih => simp [allPresent, ih]

theorem eq_map_some_of_allPresent {α : Type} {l : List (Option α)} {xs : List α} (h : allPresent l = some xs) :
    l = xs.map some := by
  induction l generalizing xs with
  | nil => cases h; rfl
  | cons x l ih =>
    cases x with
    | none => cases h
    | some x =>
      obtain ⟨ys, present, rfl⟩ := Option.map_eq_some_iff.1 h
      rw [ih present]
      rfl

/-- Every pane of the layout that a request names stands in its fifteen bytes. -/
theorem layoutOf_panes {ps : List Byte} {l : Layout} (h : layoutOf ps = some l) {j : Nat} (below : j < field ps 4 1) :
    ∃ p ∈ l.panes, paneAt ps (5 + 15 * j) = some p := by
  obtain ⟨panes, present, rfl⟩ := Option.map_eq_some_iff.1 h
  have listed := eq_map_some_of_allPresent present
  have entry := congrArg (fun xs => xs[j]?) listed
  simp only [List.getElem?_map, List.getElem?_range below, Option.map_some] at entry
  cases at_j : panes[j]? with
  | none => rw [at_j] at entry; cases entry
  | some p =>
    rw [at_j] at entry
    exact ⟨p, List.mem_of_getElem? at_j, Option.some.inj entry⟩

/-- The parameters of SET LAYOUT (R98). -/
def layoutParameters (m r g b count : Byte) (rest : List Byte) : List Byte := [m, r, g, b, count] ++ rest

theorem layoutParameters_fields (m r g b count : Byte) (rest : List Byte) :
    field (layoutParameters m r g b count rest) 0 1 = m.toNat ∧ field (layoutParameters m r g b count rest) 1 1 = r.toNat
      ∧ field (layoutParameters m r g b count rest) 2 1 = g.toNat ∧ field (layoutParameters m r g b count rest) 3 1 = b.toNat
      ∧ field (layoutParameters m r g b count rest) 4 1 = count.toNat := by
  simp only [layoutParameters, List.cons_append, field_cons, field_cons_skip, Nat.reduceLeDiff, Nat.reduceSub, le_refl, and_self]

theorem parameters_length (p : Pane) : p.parameters.length = 15 := by simp [Pane.parameters]

theorem flatMap_parameters_length (panes : List Pane) : (panes.flatMap Pane.parameters).length = 15 * panes.length := by
  induction panes with
  | nil => rfl
  | cons p panes ih => simp only [List.flatMap_cons, List.length_append, parameters_length, ih, List.length_cons]; omega

/-- The parameters of a list of panes name the layout with them. -/
theorem layoutOf_parameters (m : Byte) (bg : Colour) {panes : List Pane} (few : panes.length < 256)
    (ranged : ∀ p ∈ panes, p.sx < 256 ^ 2 ∧ p.sy < 256 ^ 2 ∧ p.sw < 256 ^ 2 ∧ p.sh < 256 ^ 2 ∧ p.dx < 256 ^ 2 ∧ p.dy < 256 ^ 2
      ∧ p.k < 256 ^ 1) :
    layoutOf (layoutParameters m bg.r bg.g bg.b (BitVec.ofNat 8 panes.length) (panes.flatMap Pane.parameters))
      = some ⟨bg, panes⟩ := by
  obtain ⟨-, rAt, gAt, bAt, countAt⟩ :=
    layoutParameters_fields m bg.r bg.g bg.b (BitVec.ofNat 8 panes.length) (panes.flatMap Pane.parameters)
  rw [BitVec.toNat_ofNat, Nat.mod_eq_of_lt few] at countAt
  have listed : (List.range panes.length).map (fun j => paneAt (layoutParameters m bg.r bg.g bg.b (BitVec.ofNat 8 panes.length)
      (panes.flatMap Pane.parameters)) (5 + 15 * j)) = panes.map some := by
    refine List.ext_getElem (by simp) fun j below below' => ?_
    have inside : j < panes.length := by simpa using below
    rw [List.getElem_map, List.getElem_range, List.getElem_map]
    obtain ⟨hsx, hsy, hsw, hsh, hdx, hdy, hk⟩ := ranged panes[j] (List.getElem_mem inside)
    have parted : layoutParameters m bg.r bg.g bg.b (BitVec.ofNat 8 panes.length) (panes.flatMap Pane.parameters)
        = ([m, bg.r, bg.g, bg.b, BitVec.ofNat 8 panes.length] ++ (panes.take j).flatMap Pane.parameters)
          ++ (panes[j].parameters ++ (panes.drop (j + 1)).flatMap Pane.parameters) := by
      rw [layoutParameters, List.append_assoc, ← List.flatMap_cons, ← List.flatMap_append, ← List.drop_eq_getElem_cons inside,
        List.take_append_drop]
    have place : 5 + 15 * j = ([m, bg.r, bg.g, bg.b, BitVec.ofNat 8 panes.length]
        ++ (panes.take j).flatMap Pane.parameters).length := by
      rw [List.length_append, flatMap_parameters_length, List.length_take]
      simp only [List.length_cons, List.length_nil]
      omega
    rw [parted, place]
    exact paneAt_parameters _ _ hsx hsy hsw hsh hdx hdy hk
  simp only [layoutOf, rAt, gAt, bAt, countAt, listed, allPresent_map_some, BitVec.ofNat_toNat, BitVec.setWidth_eq, Option.map_some]

/-! ### SET LAYOUT (R98, R99) -/

theorem Screen.uses_iff (x : Screen) (m : Fin 16) :
    x.uses m = true ↔ ∃ f, x.frame = some f ∧ f.kind = .requested ∧ f.layout = some m := by
  unfold Screen.uses
  cases x.frame with
  | none => simp
  | some f => simp

theorem State.usesLayout_iff (s : State) (m : Fin 16) : ((s.screen 0).uses m || (s.screen 1).uses m) = true ↔
    ∃ (c : Fin 2) (f : ScreenFrame), (s.screen c).frame = some f ∧ f.kind = .requested ∧ f.layout = some m := by
  rw [Bool.or_eq_true, Screen.uses_iff, Screen.uses_iff, Fin.exists_fin_two]

/-- A request that names no layout, or a layout that R98 does not allow, is refused. -/
theorem State.doSetLayout_refused (s : State) {ps : List Byte} (bad : ∀ l, layoutOf ps = some l →
    15 < field ps 0 1 ∨ 6 < field ps 4 1 ∨ ∃ p ∈ l.panes, p.allowed s.streams = false) : s.doSetLayout ps = s.refuse .badParam := by
  unfold State.doSetLayout
  split
  · rename_i m l number named
    refine if_pos ?_
    rcases bad l named with above | many | ⟨p, mem, not_allowed⟩
    · exact absurd (index?_eq_some.1 number) (by omega)
    · exact .inr (.inl many)
    · exact .inr (.inr (.inr (List.all_eq_false.2 ⟨p, mem, by simp [not_allowed]⟩)))
  · rfl

theorem Pane.allowed_iff (streams : Vector Stream 16) (p : Pane) : p.allowed streams = true ↔
    1 ≤ p.k ∧ p.k ≤ 4 ∧ p.sw ≠ 0 ∧ p.sh ≠ 0 ∧ p.sw % p.k = 0 ∧ p.sh % p.k = 0
      ∧ p.sx + p.sw ≤ streams[p.stream].cfg.w ∧ p.sy + p.sh ≤ streams[p.stream].cfg.h := by
  rw [Pane.allowed, decide_eq_true_iff]

/-- A layout that R98 allows is stored, unless a frame latched from its number stands. -/
theorem State.doSetLayout_allowed (s : State) {ps : List Byte} {m : Fin 16} {l : Layout} (number : field ps 0 1 = m.val)
    (named : layoutOf ps = some l) (few : field ps 4 1 ≤ 6) (len : ps.length = 5 + 15 * field ps 4 1)
    (allowed : ∀ p ∈ l.panes, p.allowed s.streams = true) : s.doSetLayout ps =
      if ((s.screen 0).uses m || (s.screen 1).uses m) = true then s.refuse .inUse
      else ({ s with comp := { s.comp with layouts := modAt s.comp.layouts m (fun _ => l) } } : State).reply .done [] := by
  simp only [State.doSetLayout, number, index?_val, named]
  refine if_neg ?_
  rw [List.all_eq_true.2 allowed]
  simp only [Bool.true_eq_false, or_false]
  omega

/-- The frame of a SET LAYOUT that R98 allows. -/
theorem exec_setLayout_of_allowed {s : State} (hears : s.hears) (m : Fin 16) (bg : Colour) {panes : List Pane}
    (few : panes.length ≤ 6) (ranged : ∀ p ∈ panes, p.sx < 256 ^ 2 ∧ p.sy < 256 ^ 2 ∧ p.sw < 256 ^ 2 ∧ p.sh < 256 ^ 2
      ∧ p.dx < 256 ^ 2 ∧ p.dy < 256 ^ 2 ∧ p.k < 256 ^ 1) (allowed : ∀ p ∈ panes, p.allowed s.streams = true) :
    exec (.setLayout (frameOf (layoutParameters (BitVec.ofNat 8 m.val) bg.r bg.g bg.b (BitVec.ofNat 8 panes.length)
        (panes.flatMap Pane.parameters)))) s = .next (
      if ((s.screen 0).uses m || (s.screen 1).uses m) = true then s.responds (7 + 15 * panes.length) .inUse []
      else ({ s with comp := { s.comp with
        layouts := modAt s.comp.layouts m (fun _ => ⟨bg, panes⟩) } } : State).responds (7 + 15 * panes.length) .done []) := by
  have len : (layoutParameters (BitVec.ofNat 8 m.val) bg.r bg.g bg.b (BitVec.ofNat 8 panes.length)
      (panes.flatMap Pane.parameters)).length = 5 + 15 * panes.length := by
    rw [layoutParameters, List.length_append, flatMap_parameters_length]
    rfl
  obtain ⟨number, -, -, -, countAt⟩ := layoutParameters_fields (BitVec.ofNat 8 m.val) bg.r bg.g bg.b
    (BitVec.ofNat 8 panes.length) (panes.flatMap Pane.parameters)
  rw [streamByte_toNat] at number
  rw [BitVec.toNat_ofNat, Nat.mod_eq_of_lt (by omega)] at countAt
  have named := layoutOf_parameters (BitVec.ofNat 8 m.val) bg (show panes.length < 256 by omega) ranged
  rw [exec_setLayout, s.request_heard hears]
  have small : 5 + 15 * panes.length < 2 ^ 8 := by omega
  have checked : checkFrame (fun _ => true) (frameOf (layoutParameters (BitVec.ofNat 8 m.val) bg.r bg.g bg.b
      (BitVec.ofNat 8 panes.length) (panes.flatMap Pane.parameters))) = some _ := if_pos ⟨by
    rw [len, BitVec.toNat_ofNat, Nat.mod_eq_of_lt small], by rw [len, BitVec.toNat_ofNat, Nat.mod_eq_of_lt small]; omega, rfl⟩
  rw [checked]
  simp only
  rw [State.doSetLayout_allowed _ number named (by omega) (by rw [len, countAt]) (by exact allowed)]
  have frame : 7 + 15 * panes.length = (frameOf (layoutParameters (BitVec.ofNat 8 m.val) bg.r bg.g bg.b
      (BitVec.ofNat 8 panes.length) (panes.flatMap Pane.parameters))).length + 1 := by
    rw [frameOf, List.length_cons, len]
    omega
  rw [frame]
  rfl

/-- The frame of a SET LAYOUT that names no layout, or one that R98 does not allow. -/
theorem exec_setLayout_of_refused {s : State} (hears : s.hears) {m r g b count : Byte} {rest : List Byte}
    (bad : ∀ l, layoutOf (layoutParameters m r g b count rest) = some l →
      15 < m.toNat ∨ 6 < count.toNat ∨ ∃ p ∈ l.panes, p.allowed s.streams = false) :
    exec (.setLayout (frameOf (layoutParameters m r g b count rest))) s = .next (s.responds (7 + rest.length) .badParam []) := by
  obtain ⟨number, -, -, -, countAt⟩ := layoutParameters_fields m r g b count rest
  have frame : 7 + rest.length = (frameOf (layoutParameters m r g b count rest)).length + 1 := by
    simp [frameOf, layoutParameters]
    omega
  rw [exec_setLayout, s.request_heard hears, frame]
  split
  · rfl
  · rename_i ps' checked
    obtain rfl : layoutParameters m r g b count rest = ps' := Option.some.inj (Option.ite_none_right_eq_some.1 checked).2
    rw [State.doSetLayout_refused _ (by rw [number, countAt]; exact bad)]
    rfl

/-! ### SELECT LAYOUT, the views and SET HOLD (R100, R134, R142, R153) -/

section Settings
variable {s : State}

theorem fields_two (a b : Byte) : field [a, b] 0 1 = a.toNat ∧ field [a, b] 1 1 = b.toNat :=
  ⟨field_byte [] a [b], field_byte [a] b []⟩

theorem exec_selectLayout_of_none (hears : s.hears) {c m : Byte} (bad : 1 < c.toNat ∨ 15 < m.toNat) :
    exec (.selectLayout (frameOf [c, m])) s = .next (s.responds 4 .badParam []) := by
  refine congrArg Host.Outcome.next ((State.request_frameOf (ps := [c, m]) hears rfl (by simp) _).trans ?_)
  simp only [State.doSelectLayout, (fields_two c m).1, (fields_two c m).2]
  split
  · rename_i c' m' screen layout
    have := index?_eq_some.1 screen
    have := index?_eq_some.1 layout
    omega
  · rfl

theorem exec_selectLayout_of_some (hears : s.hears) {c m : Byte} {c' : Fin 2} {m' : Fin 16} (hc : c.toNat = c'.val)
    (hm : m.toNat = m'.val) : exec (.selectLayout (frameOf [c, m])) s = .next (({ s with comp := { s.comp with
      screens := modAt s.comp.screens c' (fun x => { x with requested := m' }) } } : State).responds 4 .done []) := by
  refine congrArg Host.Outcome.next ((State.request_frameOf (ps := [c, m]) hears rfl (by simp) _).trans ?_)
  simp only [State.doSelectLayout, (fields_two c m).1, (fields_two c m).2, hc, hm, index?_val]
  rfl

theorem LineMonitor.openDoors_ne_nil_iff (m : LineMonitor) : m.openDoors ≠ [] ↔ ∃ d, m.doorOpen d = true := by
  simp [LineMonitor.openDoors, List.filter_eq_nil_iff]

theorem exec_setDoorView (hears : s.hears) (enable : Byte) {linger : Nat} (hl : linger < 256 ^ 2) :
    exec (.setDoorView (frameOf (enable :: leBytes 2 linger))) s = .next (
      if decide (enable ≠ 0) = false ∧ s.lines.openDoors ≠ [] then s.responds 5 .doorsOpen []
      else (s.withLines { s.lines with doorEnable := decide (enable ≠ 0), linger := min 30000 linger }).responds 5
        .done (leBytes 2 (min 30000 linger))) := by
  have lingerAt : field (enable :: leBytes 2 linger) 1 2 = linger := by
    rw [field_cons_skip _ _ _ le_rfl]
    exact field_leBytes hl
  refine congrArg Host.Outcome.next ((State.request_frameOf hears (by simp) (by simp) _).trans ?_)
  simp only [State.doSetDoorView, field_cons, lingerAt, byte_ne_zero, clamp, Nat.zero_max, State.recomputeHidden_eq,
    State.driveZeros_lines]
  split <;> rfl

theorem exec_setReverseView_of_none (hears : s.hears) {enable screen : Byte} (above : 1 < screen.toNat) :
    exec (.setReverseView (frameOf [enable, screen])) s = .next (s.responds 4 .badParam []) := by
  refine congrArg Host.Outcome.next ((State.request_frameOf (ps := [enable, screen]) hears rfl (by simp) _).trans ?_)
  simp only [State.doSetReverseView, (fields_two enable screen).2, index?_eq_none.2 (show 2 ≤ screen.toNat from above)]
  rfl

theorem exec_setReverseView_of_some (hears : s.hears) {enable screen : Byte} {c : Fin 2} (hc : screen.toNat = c.val) :
    exec (.setReverseView (frameOf [enable, screen])) s = .next ((s.withLines { s.lines with
      reverseEnable := decide (enable ≠ 0), preferred := c }).responds 4 .done []) := by
  refine congrArg Host.Outcome.next ((State.request_frameOf (ps := [enable, screen]) hears rfl (by simp) _).trans ?_)
  simp only [State.doSetReverseView, (fields_two enable screen).1, (fields_two enable screen).2, hc, index?_val, byte_ne_zero,
    State.recomputeHidden_eq]
  rfl

end Settings

/-- Settles O42: SET LAYOUT stores the layout its parameters name, which the bytes of the panes decide one by one; the
other settings read their bytes and store them. -/
theorem layoutViewAndHoldSettings : Obligations.LayoutViewAndHoldSettings := by
  refine ⟨⟨fun s m bg panes hears few fit body framed => ?_, fun s m r g b count rest hears len bad => ?_,
    fun s c m hears => ⟨exec_selectLayout_of_none hears, fun c' m' hc hm => exec_selectLayout_of_some hears hc hm⟩⟩,
    fun s enable linger hears hl => ⟨fun clear opened => ?_, fun kept => ?_⟩,
    fun s enable screen hears => ⟨exec_setReverseView_of_none hears, fun c hc => exec_setReverseView_of_some hears hc⟩,
    fun s pre post hears => ?_⟩
  · subst framed
    have run := exec_setLayout_of_allowed hears m bg few
      (fun p mem => by
        obtain ⟨sx, sy, sw, sh, dx, dy, -, k, -⟩ := fit p mem
        exact ⟨sx, sy, sw, sh, dx, dy, by omega⟩)
      (fun p mem => by
        obtain ⟨-, -, -, -, -, -, rest⟩ := fit p mem
        exact (p.allowed_iff s.streams).2 rest)
    refine ⟨fun used => run.trans (congrArg Host.Outcome.next (if_pos ((s.usesLayout_iff m).2 used))),
      fun free => run.trans (congrArg Host.Outcome.next (if_neg fun used => ?_))⟩
    obtain ⟨c, f, latched, kind, layout⟩ := (s.usesLayout_iff m).1 used
    exact free c f latched kind layout
  · refine exec_setLayout_of_refused hears fun l named => ?_
    rcases bad with above | many | ⟨pre, post, stream, sx, sy, sw, sh, k, dx, dy, flags, aligned, parted, hstream, hsx, hsy, hsw,
        hsh, hk, hflags, wrong⟩
    · exact .inl above
    · exact .inr (.inl many)
    · have here : layoutParameters m r g b count rest
          = ([m, r, g, b, count] ++ pre) ++ (paneBytes stream sx sy sw sh k dx dy flags ++ post) := by
        rw [layoutParameters, parted]
        simp only [paneBytes, List.append_assoc]
      obtain ⟨j, atPre⟩ : ∃ j, pre.length = 15 * j := ⟨pre.length / 15, by omega⟩
      have below : j < count.toNat := by
        have := congrArg List.length parted
        simp only [List.length_append, leBytes_length, len] at this
        omega
      obtain ⟨p, mem, at_j⟩ := layoutOf_panes named
        (show j < field (layoutParameters m r g b count rest) 4 1 by rw [(layoutParameters_fields m r g b count rest).2.2.2.2]; exact below)
      obtain ⟨dx', dy', -, -, bytes⟩ := paneAt_paneBytes ([m, r, g, b, count] ++ pre) post (dx := dx) (dy := dy) hstream hsx hsy
        hsw hsh hk hflags
      rw [← here, show ([m, r, g, b, count] ++ pre).length = 5 + 15 * j by
        rw [List.length_append, atPre]; rfl, at_j] at bytes
      obtain ⟨i, number, pane⟩ := Option.bind_eq_some_iff.1 bytes.symm
      obtain ⟨flagged, same⟩ := Option.ite_none_left_eq_some.1 pane
      obtain rfl := Option.some.inj same
      have stream_eq := index?_eq_some.1 number
      refine .inr (.inr ⟨_, mem, Bool.eq_false_iff.2 fun allowed => ?_⟩)
      obtain ⟨k_pos, k_le, sw_pos, sh_pos, sw_mod, sh_mod, wide, high⟩ := (Pane.allowed_iff ..).1 allowed
      rcases wrong with h | h | h | h | h | h | h | h | ⟨i', same, h⟩
      · omega
      · exact absurd (show 1 ≤ k from k_pos) (by omega)
      · exact absurd (show k ≤ 4 from k_le) (by omega)
      · exact sw_pos h
      · exact sh_pos h
      · exact h sw_mod
      · exact h sh_mod
      · exact flagged h
      · obtain rfl : i' = i := Fin.ext (same.symm.trans stream_eq)
        rcases h with h | h
        · exact h.not_ge wide
        · exact h.not_ge high
  · exact (exec_setDoorView hears enable hl).trans (congrArg Host.Outcome.next
      (if_pos ⟨by simp [clear], s.lines.openDoors_ne_nil_iff.2 opened⟩))
  · refine (exec_setDoorView hears enable hl).trans (congrArg Host.Outcome.next (if_neg fun ⟨clear, opened⟩ => ?_))
    obtain ⟨d, isOpen⟩ := s.lines.openDoors_ne_nil_iff.1 opened
    rcases kept with set | closed
    · exact set (by simpa using clear)
    · rw [closed d] at isOpen; cases isOpen
  · refine congrArg Host.Outcome.next ((State.request_frameOf (ps := [pre, post]) hears rfl (by simp) _).trans ?_)
    simp only [State.doSetHold, (fields_two pre post).1, (fields_two pre post).2, clamp, Nat.zero_max]
    rfl

end Sys2Proof.Machine
end

section
/-! PROOFS. SET STREAM (R17, R18, R91, R177). -/

namespace Sys2Proof.Machine

/-! ### Fields of any value -/

/-- The n bytes of a value have it modulo 256^n. -/
theorem leValue_leBytes_mod (n v : Nat) : leValue (leBytes n v) = v % 256 ^ n := by
  induction n generalizing v with
  | zero => simp [leBytes, leValue, Nat.mod_one]
  | succ n ih =>
    rw [leBytes, leValue, ih, BitVec.toNat_ofNat, pow_succ 256 n, Nat.mul_comm (256 ^ n) 256, Nat.mod_mul]

theorem field_leBytes_mod (n v : Nat) (post : List Byte) : field (leBytes n v ++ post) 0 n = v % 256 ^ n := by
  rw [← leValue_leBytes_mod]
  simp [field]

theorem field_leBytes_mod_last (n v : Nat) : field (leBytes n v) 0 n = v % 256 ^ n := by
  rw [← field_leBytes_mod n v [], List.append_nil]

theorem field_skip (l post : List Byte) (n : Nat) {off : Nat} (h : l.length ≤ off) :
    field (l ++ post) off n = field post (off - l.length) n := by
  rw [← field_append_right l post (off - l.length) n, Nat.add_sub_of_le h]

/-! ### The parameters of SET STREAM (R177) -/

/-- The 27 bytes of SET STREAM, field by field. -/
def streamBytes (number role door identity w h base len : Nat) (slots : List Byte) (age mirror rows cols enabled : Nat) :
    List Byte :=
  leBytes 1 number ++ leBytes 1 role ++ leBytes 1 door ++ leBytes 2 identity ++ leBytes 2 w ++ leBytes 2 h ++ leBytes 5 base
    ++ leBytes 1 len ++ slots ++ leBytes 2 age ++ leBytes 1 mirror ++ leBytes 1 rows ++ leBytes 1 cols ++ leBytes 1 enabled

section StreamBytes
variable {number role door identity w h base len age mirror rows cols enabled : Nat} {slots : List Byte}

theorem streamBytes_length (six : slots.length = 6) :
    (streamBytes number role door identity w h base len slots age mirror rows cols enabled).length = 27 := by
  simp [streamBytes, six]

/-- Each field is read as it was sent, modulo its width. -/
theorem streamParams_streamBytes (six : slots.length = 6) :
    streamParams (streamBytes number role door identity w h base len slots age mirror rows cols enabled)
      = ⟨number % 256, role % 256, door % 256, identity % 256 ^ 2, w % 256 ^ 2, h % 256 ^ 2, base % 256 ^ 5, len % 256,
        (slots.take (min 6 (len % 256))).map BitVec.toNat, age % 256 ^ 2, mirror % 256, rows % 256, cols % 256, enabled % 256⟩ := by
  have slotsAt (rest : List Byte) (k : Nat) : List.take (min 6 k) (List.drop 15 (leBytes 1 number ++ (leBytes 1 role ++
      (leBytes 1 door ++ (leBytes 2 identity ++ (leBytes 2 w ++ (leBytes 2 h ++ (leBytes 5 base ++ (leBytes 1 len ++
      (slots ++ rest)))))))))) = List.take (min 6 k) slots := by
    simp only [List.drop_append, leBytes_length, List.drop_eq_nil_of_le, Nat.reduceSub, List.nil_append, Nat.reduceLeDiff,
      List.drop_zero]
    rw [List.take_append_of_le_length (by omega)]
  have skipSlots (off n : Nat) (rest : List Byte) (past : 6 ≤ off) : field (slots ++ rest) off n = field rest (off - 6) n := by
    rw [field_skip slots rest n (six ▸ past), six]
  have one (v : Nat) : v % 256 ^ 1 = v % 256 := rfl
  simp only [streamParams, streamBytes, List.append_assoc, field_leBytes_skip, field_leBytes_mod, field_leBytes_mod_last, slotsAt,
    skipSlots, Nat.reduceLeDiff, Nat.reduceSub, le_refl, one]

end StreamBytes

theorem roleOf_code (r : Role) : roleOf r.code = some r := by cases r <;> rfl

theorem roleOf_eq_none {n : Nat} (h : 4 < n) : roleOf n = none := by
  obtain ⟨k, rfl⟩ := Nat.exists_eq_add_of_lt h
  rw [show 4 + k + 1 = k + 5 by omega]
  rfl

theorem exists_role {n : Nat} (h : n ≤ 4) : ∃ r : Role, r.code = n := by
  match n, h with
  | 0, _ => exact ⟨.none, rfl⟩
  | 1, _ => exact ⟨.door, rfl⟩
  | 2, _ => exact ⟨.endA, rfl⟩
  | 3, _ => exact ⟨.endB, rfl⟩
  | 4, _ => exact ⟨.spare, rfl⟩

theorem Role.code_eq_zero (r : Role) : r.code = 0 ↔ r = .none := by cases r <;> decide

theorem Role.code_eq_one (r : Role) : r.code = 1 ↔ r = .door := by cases r <;> decide

theorem StreamParams.malformed_iff (p : StreamParams) (r : Role) : p.malformed r = true ↔
    p.w < 320 ∨ 2048 < p.w ∨ p.w % 4 ≠ 0 ∨ p.h < 240 ∨ 1536 < p.h ∨ r.code = 1 ∧ 11 < p.door
      ∨ r.code ≠ 0 ∧ (p.listLen < 2 ∨ ¬p.slots.Nodup ∨ p.base % 4096 ≠ 0) ∨ 6 < p.listLen ∨ 64 ≤ p.rows
      ∨ 68719476736 ≤ p.base ∨ r.code = 0 ∧ p.enabled ≠ 0 := by
  simp only [StreamParams.malformed, Bool.or_eq_true, decide_eq_true_eq, Role.code_eq_one, Role.code_eq_zero, or_assoc,
    ne_eq, Config.addrEnd]

/-- Parameters that none of the cases of R17 and R177 refuses. -/
theorem StreamParams.wellFormed {p : StreamParams} {r : Role} (width : 320 ≤ p.w ∧ p.w ≤ 2048 ∧ p.w % 4 = 0)
    (height : 240 ≤ p.h ∧ p.h ≤ 1536) (door : r.code = 1 → p.door ≤ 11)
    (listed : r.code ≠ 0 → 2 ≤ p.listLen ∧ p.slots.Nodup ∧ p.base % 4096 = 0) (few : p.listLen ≤ 6) (rows : p.rows < 64)
    (base : p.base < 68719476736) (off : r.code = 0 → p.enabled = 0) : p.malformed r = false := by
  refine Bool.eq_false_iff.2 fun bad => ?_
  rcases p.malformed_iff r |>.1 bad with h | h | h | h | h | ⟨one, h⟩ | ⟨some, h⟩ | h | h | h | ⟨zero, h⟩
  · omega
  · omega
  · omega
  · omega
  · omega
  · exact h.not_ge (door one)
  · obtain ⟨two, apart, page⟩ := listed some
    rcases h with h | h | h
    · omega
    · exact h apart
    · exact h page
  · omega
  · omega
  · omega
  · exact h (off zero)

/-! ### Refused, or carried out (R17, R18, R177) -/

section DoSetStream
variable {s : State} {ps : List Byte}

theorem exec_setStream (hears : s.hears) (len : ps.length = 27) :
    exec (.setStream (frameOf ps)) s = .next ((s.driveZeros (frameOf ps)).doSetStream ps) :=
  congrArg Host.Outcome.next (State.request_frameOf hears len (by omega) _)

theorem State.doSetStream_malformed (bad : 15 < (streamParams ps).stream
    ∨ ∀ r, roleOf (streamParams ps).role = some r → (streamParams ps).malformed r = true) :
    s.doSetStream ps = s.refuse .badParam := by
  simp only [State.doSetStream]
  split
  · rename_i i r number role
    refine if_pos ?_
    rcases bad with above | bad
    · exact absurd (index?_eq_some.1 number) (by omega)
    · exact bad r role
  · rfl

theorem State.doSetStream_wellFormed {i : Fin 16} {r : Role} (number : (streamParams ps).stream = i.val)
    (role : roleOf (streamParams ps).role = some r) (well : (streamParams ps).malformed r = false) :
    s.doSetStream ps = if s.roleInUse i ((streamParams ps).config r) = true then s.refuse .inUse
      else if s.transit.mode = .active ∧ (s.stream i).cfg.frozenChange ((streamParams ps).config r) = true then s.refuse .state
      else (s.writeStream i ((streamParams ps).config r)).reply .done (leBytes 2 ((streamParams ps).config r).ageLimit) := by
  simp only [State.doSetStream, number, index?_val, role]
  exact if_neg (by rw [well]; decide)

end DoSetStream

theorem State.roleInUse_iff (s : State) (i : Fin 16) (c : StreamConfig) : s.roleInUse i c = true ↔ s.roleTaken i c := by
  simp only [State.roleInUse, State.roleTaken, List.any_eq_true, List.mem_finRange, true_and, Bool.and_eq_true,
    decide_eq_true_eq]
  refine exists_congr fun j => and_congr_right fun _ => and_congr eq_comm ?_
  rw [@eq_comm _ c.door]

theorem StreamConfig.frozenChange_iff (old : StreamConfig) {new : StreamConfig} (role : new.role ≠ .none) :
    old.frozenChange new = true ↔ old.enabled = true ∨ new.enabled = true ∨ old.base ≠ new.base
      ∨ old.slotList ≠ new.slotList ∨ old.role = .none := by
  have kind : (decide (old.role = .none) != decide (new.role = .none)) = decide (old.role = .none) := by
    rw [decide_eq_false role, Bool.bne_false]
  simp only [StreamConfig.frozenChange, kind, Bool.or_eq_true, decide_eq_true_eq, or_assoc]

/-! ### The configuration part that is asked for, and how it is stored (R17, R91) -/

/-- The configuration a request asks for, from the parameters that ask for it. -/
theorem config_parameters (i : Fin 16) {c : StreamConfig} {age : Nat} (door : c.door < 256) (w : c.w < 65536) (h : c.h < 65536)
    (base : c.base < 256 ^ 5) (few : c.slotList.length ≤ 6) (bytes : ∀ n ∈ c.slotList, n < 256) (short : age < 65536) :
    ∃ p, streamParams (({ c with ageLimit := age } : StreamConfig).parameters i) = p ∧ p.stream = i.val ∧ p.role = c.role.code
      ∧ p.w = c.w ∧ p.h = c.h ∧ p.door = c.door ∧ p.listLen = c.slotList.length ∧ p.slots = c.slotList ∧ p.base = c.base
      ∧ p.rows < 64 ∧ (p.enabled ≠ 0 ↔ c.enabled = true)
      ∧ p.config c.role = { c with
        base := if c.role = .none then 0 else c.base
        slotList := if c.role = .none then [] else c.slotList
        ageLimit := min 2000 (max 20 age) } := by
  have six : (c.slotList.map (BitVec.ofNat 8) ++ List.replicate (6 - c.slotList.length) 0).length = 6 := by
    simp
    omega
  have flags (b : Bool) : [flagByte b] = leBytes 1 (if b = true then 1 else 0) := by cases b <;> rfl
  have sent : ({ c with ageLimit := age } : StreamConfig).parameters i = streamBytes i.val c.role.code c.door c.identity.toNat c.w c.h
      c.base c.slotList.length (c.slotList.map (BitVec.ofNat 8) ++ List.replicate (6 - c.slotList.length) 0) age
      (if c.mirror = true then 1 else 0) c.exRows.toNat c.exCols.toNat (if c.enabled = true then 1 else 0) := by
    simp only [StreamConfig.parameters, flags]
    rfl
  have identity := c.identity.isLt
  have rows := c.exRows.isLt
  have cols := c.exCols.isLt
  have role : c.role.code < 256 := by cases c.role <;> decide
  have flagged (b : Bool) : (if b = true then 1 else 0) % 256 = if b = true then 1 else 0 := by cases b <;> rfl
  have listed : ((c.slotList.map (BitVec.ofNat 8) ++ List.replicate (6 - c.slotList.length) 0).take
      (min 6 (c.slotList.length % 256))).map BitVec.toNat = c.slotList := by
    rw [Nat.mod_eq_of_lt (by omega), min_eq_right few, List.take_append_of_le_length (by simp), List.take_of_length_le (by simp),
      List.map_map]
    refine (List.map_congr_left fun n mem => ?_).trans (List.map_id _)
    exact (BitVec.toNat_ofNat n 8).trans (Nat.mod_eq_of_lt (bytes n mem))
  have read := streamParams_streamBytes six (number := i.val) (role := c.role.code) (door := c.door) (identity := c.identity.toNat)
    (w := c.w) (h := c.h) (base := c.base) (len := c.slotList.length) (age := age) (mirror := if c.mirror = true then 1 else 0)
    (rows := c.exRows.toNat) (cols := c.exCols.toNat) (enabled := if c.enabled = true then 1 else 0)
  rw [← sent, listed, flagged, flagged, Nat.mod_eq_of_lt (show i.val < 256 by omega), Nat.mod_eq_of_lt role,
    Nat.mod_eq_of_lt (show c.door < 256 from door), Nat.mod_eq_of_lt (show c.identity.toNat < 256 ^ 2 by omega),
    Nat.mod_eq_of_lt (show c.w < 256 ^ 2 from w), Nat.mod_eq_of_lt (show c.h < 256 ^ 2 from h),
    Nat.mod_eq_of_lt (show c.base < 256 ^ 5 from base), Nat.mod_eq_of_lt (show c.slotList.length < 256 by omega),
    Nat.mod_eq_of_lt (show age < 256 ^ 2 from short), Nat.mod_eq_of_lt (show c.exRows.toNat < 256 by omega),
    Nat.mod_eq_of_lt (show c.exCols.toNat < 256 by omega)] at read
  refine ⟨_, read, rfl, rfl, rfl, rfl, rfl, rfl, rfl, rfl, by omega, by cases c.enabled <;> simp, ?_⟩
  have flag (b : Bool) : ((if b = true then 1 else 0 : Nat) != 0) = b := by cases b <;> rfl
  simp only [StreamParams.config, flag, BitVec.ofNat_toNat, BitVec.setWidth_eq, clamp]

theorem State.modStream_self (s : State) (i : Fin 16) (f : Stream → Stream) : (s.modStream i f).stream i = f (s.stream i) := by
  rw [State.modStream_stream, if_pos rfl]

theorem config_parameters_length (i : Fin 16) {c : StreamConfig} (few : c.slotList.length ≤ 6) (age : Nat) :
    (({ c with ageLimit := age } : StreamConfig).parameters i).length = 27 := by
  simp [StreamConfig.parameters]
  omega

/-- What SET STREAM stores, with the lens that the new exclusions leave (R91). -/
theorem State.writeStream_kept {s : State} {i : Fin 16} {c : StreamConfig}
    (kept : (s.stream i).cfg.exRows = c.exRows ∧ (s.stream i).cfg.exCols = c.exCols ∨ (s.stream i).lens.state = .learning
      ∨ 8 ≤ countTiles c (s.stream i).tiles Tile.past) :
    s.writeStream i c = s.modStream i fun st => { st with cfg := c } := by
  unfold State.writeStream State.relearnLens
  dsimp only
  split
  · rename_i changed
    refine if_neg fun ⟨few, judged⟩ => ?_
    rw [State.modStream_self] at few judged
    rcases kept with ⟨rows, cols⟩ | learning | enough
    · exact changed.elim (fun h => h rows) fun h => h cols
    · exact judged learning
    · exact few.not_ge enough
  · rfl

theorem State.writeStream_relearned {s : State} {i : Fin 16} {c : StreamConfig}
    (changed : (s.stream i).cfg.exRows ≠ c.exRows ∨ (s.stream i).cfg.exCols ≠ c.exCols)
    (judged : (s.stream i).lens.state ≠ .learning) (few : countTiles c (s.stream i).tiles Tile.past < 8) :
    s.writeStream i c = { s with
      streams := modAt s.streams i (fun st => { st with cfg := c, lens := { st.lens with state := .learning } })
      notices := s.notices.take s.time .lensChange i.val (s.stream i).lens.fraction } := by
  unfold State.writeStream State.relearnLens
  dsimp only
  rw [if_pos changed, State.modStream_self, if_pos ⟨few, judged⟩]
  simp only [State.notify, State.modNotices, State.modStream, modAt_modAt]

/-- A frame of SET STREAM whose parameters R17 and R177 refuse. -/
theorem exec_setStream_malformed {s : State} (hears : s.hears) {ps : List Byte} (len : ps.length = 27)
    (bad : 15 < (streamParams ps).stream
      ∨ ∀ r, roleOf (streamParams ps).role = some r → (streamParams ps).malformed r = true) :
    exec (.setStream (frameOf ps)) s = .next (s.responds 29 .badParam []) := by
  rw [exec_setStream hears len, State.doSetStream_malformed bad, State.driveZeros_refuse, frameOf, List.length_cons, len]

/-- A frame of SET STREAM whose parameters R17 and R177 allow: refused for its role or by R18, or stored. -/
theorem exec_setStream_wellFormed {s : State} (hears : s.hears) {ps : List Byte} (len : ps.length = 27) {i : Fin 16} {r : Role}
    {c : StreamConfig} (number : (streamParams ps).stream = i.val) (role : roleOf (streamParams ps).role = some r)
    (well : (streamParams ps).malformed r = false) (config : (streamParams ps).config r = c) :
    exec (.setStream (frameOf ps)) s = .next (
      if s.roleInUse i c = true then s.responds 29 .inUse []
      else if s.transit.mode = .active ∧ (s.stream i).cfg.frozenChange c = true then s.responds 29 .state []
      else (s.writeStream i c).responds 29 .done (leBytes 2 c.ageLimit)) := by
  have frame : (frameOf ps).length + 1 = 29 := by rw [frameOf, List.length_cons, len]
  have stored : (s.driveZeros (frameOf ps)).writeStream i c = (s.writeStream i c).driveZeros (frameOf ps) := by
    unfold State.writeStream State.relearnLens
    dsimp only [State.driveZeros_stream]
    split
    · split
      · rename_i few
        exact (if_pos few).symm ▸ rfl
      · rename_i enough
        exact (if_neg enough).symm ▸ rfl
    · rfl
  rw [exec_setStream hears len, State.doSetStream_wellFormed number role well, config, stored, State.driveZeros_refuse,
    State.driveZeros_refuse, State.driveZeros_reply, frame]
  rfl

/-- Settles O40: the parameters read back as the configuration they ask for, and the refusals stand in the order of R175,
R17 and R18. -/
theorem setStreamReplacesTheConfiguration : Obligations.SetStreamReplacesTheConfiguration := by
  refine ⟨fun s i c age body hears takeable short clamped framed frozen frozen_eq => ?_,
    fun s i c hears noRole off door wide w_le aligned high h_le base few bytes age_low age_high inactive rows cols => ?_,
    fun s number role door identity w h base len age mirror rows cols enabled slots body hears hnumber hrole hdoor hw hh hbase hlen
      six hrows henabled framed bad => ?_, fun c tiles => rfl⟩
  · obtain ⟨role, door, door_le, wide, w_le, aligned, high, h_le, page, below, two, few, apart, bytes, -⟩ := takeable
    subst framed frozen_eq
    obtain ⟨p, read, number, roleAt, wAt, hAt, doorAt, lenAt, slotsAt, baseAt, rows, -, config⟩ := config_parameters i door
      (by omega) (by omega) (show c.base < 256 ^ 5 by omega) few bytes short
    rw [if_neg role, if_neg role, ← clamped] at config
    have notNone : c.role.code ≠ 0 := fun zero => role (c.role.code_eq_zero.1 zero)
    have well : p.malformed c.role = false := StreamParams.wellFormed ⟨wAt ▸ wide, wAt ▸ w_le, wAt ▸ aligned⟩
      ⟨hAt ▸ high, hAt ▸ h_le⟩ (fun one => doorAt ▸ door_le (c.role.code_eq_one.1 one))
      (fun _ => ⟨lenAt ▸ two, slotsAt ▸ apart, baseAt ▸ page⟩) (lenAt ▸ few) rows (baseAt ▸ below)
      (fun zero => absurd zero notNone)
    have run := exec_setStream_wellFormed hears (config_parameters_length i few age) (by rw [read]; exact number)
      (by rw [read, roleAt]; exact roleOf_code c.role) (by rw [read]; exact well) (c := c) (by rw [read]; exact config)
    refine ⟨fun taken => run.trans (congrArg Host.Outcome.next (if_pos ((s.roleInUse_iff i c).2 taken))),
      fun free active stands => ?_, fun free may => ?_⟩
    · rw [if_neg (mt (s.roleInUse_iff i c).1 free), if_pos ⟨active, ((s.stream i).cfg.frozenChange_iff role).2 stands⟩] at run
      exact run
    · rw [if_neg (mt (s.roleInUse_iff i c).1 free), if_neg (fun ⟨active, stands⟩ => may.elim (fun h => h active)
        fun h => h (((s.stream i).cfg.frozenChange_iff role).1 stands))] at run
      refine ⟨fun kept => run.trans ?_, fun changed judged less => run.trans ?_⟩
      · rw [State.writeStream_kept kept]
        rfl
      · rw [State.writeStream_relearned changed judged less]
  · obtain ⟨p, read, number, roleAt, wAt, hAt, doorAt, lenAt, slotsAt, baseAt, rowsAt, enabledAt, config⟩ :=
      config_parameters i (age := c.ageLimit) door (by omega) (by omega) (show c.base < 256 ^ 5 by omega) few bytes (by omega)
    rw [if_pos noRole, if_pos noRole, show min 2000 (max 20 c.ageLimit) = c.ageLimit by omega] at config
    have well : p.malformed c.role = false := StreamParams.wellFormed ⟨wAt ▸ wide, wAt ▸ w_le, wAt ▸ aligned⟩
      ⟨hAt ▸ high, hAt ▸ h_le⟩ (fun one => by rw [noRole] at one; cases one) (fun some => absurd (by rw [noRole]; rfl) some)
      (lenAt ▸ few) rowsAt (baseAt ▸ base)
      (fun _ => by_contra fun on => by rw [enabledAt.1 on] at off; cases off)
    have run := exec_setStream_wellFormed hears (config_parameters_length i few c.ageLimit) (by rw [read]; exact number)
      (by rw [read, roleAt]; exact roleOf_code c.role) (by rw [read]; exact well) (c := { c with base := 0, slotList := [] })
      (by rw [read]; exact config)
    rw [if_neg (fun taken => ?_), if_neg (fun h => inactive h.1), State.writeStream_kept (by exact .inl ⟨rows, cols⟩)] at run
    · exact run
    · obtain ⟨j, -, -, ⟨door, -⟩ | endA | endB⟩ := (s.roleInUse_iff i _).1 taken
      · exact absurd (noRole.symm.trans door) (by decide)
      · exact absurd (noRole.symm.trans endA) (by decide)
      · exact absurd (noRole.symm.trans endB) (by decide)
  · subst framed
    refine exec_setStream_malformed hears (streamBytes_length six) ?_
    have read := streamParams_streamBytes six (number := number) (role := role) (door := door) (identity := identity) (w := w)
      (h := h) (base := base) (len := len) (age := age) (mirror := mirror) (rows := rows) (cols := cols) (enabled := enabled)
    rw [Nat.mod_eq_of_lt hnumber, Nat.mod_eq_of_lt hrole, Nat.mod_eq_of_lt hdoor, Nat.mod_eq_of_lt (show w < 256 ^ 2 from hw),
      Nat.mod_eq_of_lt (show h < 256 ^ 2 from hh), Nat.mod_eq_of_lt hbase, Nat.mod_eq_of_lt hlen, Nat.mod_eq_of_lt hrows,
      Nat.mod_eq_of_lt henabled] at read
    rw [show streamParams (leBytes 1 number ++ leBytes 1 role ++ leBytes 1 door ++ leBytes 2 identity ++ leBytes 2 w
      ++ leBytes 2 h ++ leBytes 5 base ++ leBytes 1 len ++ slots ++ leBytes 2 age ++ leBytes 1 mirror ++ leBytes 1 rows
      ++ leBytes 1 cols ++ leBytes 1 enabled) = _ from read]
    by_cases above : 15 < number
    · exact .inl above
    · refine .inr fun r known => ?_
      have code : r.code = role := by
        by_cases high : 4 < role
        · rw [roleOf_eq_none high] at known; cases known
        · obtain ⟨r', rfl⟩ := exists_role (not_lt.1 high)
          rw [roleOf_code] at known
          rw [Option.some.inj known]
      have listed : ((slots.take (min 6 len)).map BitVec.toNat).Nodup ↔ (slots.take len).Nodup := by
        rw [List.nodup_map_iff (fun a b => BitVec.eq_of_toNat_eq), min_comm, ← List.take_take, ← six, List.take_length]
      rw [StreamParams.malformed_iff, code]
      simp only [listed]
      have role_le : role ≤ 4 := code ▸ by cases r <;> decide
      exact (bad.resolve_left above).resolve_left role_le.not_gt

end Sys2Proof.Machine
end

section
/-! PROOFS. ENABLE STREAM and DISABLE STREAM (R5, R19, R20, R27, R31, R144). -/

namespace Sys2Proof.Machine

/-! ### The window of a stream (R5) -/

theorem windowOfStream_eq_some {ws : List Window} {i : Fin 16} {w : Window} (h : windowOfStream ws i = some w) :
    w ∈ ws ∧ w.kind = .capture i := ⟨List.mem_of_find?_eq_some h, by simpa using List.find?_some h⟩

theorem windowOfStream_eq_none {ws : List Window} {i : Fin 16} (h : windowOfStream ws i = none) :
    ∀ w ∈ ws, w.kind ≠ .capture i := by simpa using List.find?_eq_none.1 h

/-! ### What a stopped capture leaves (R20, R31) -/

/-- A write absorbed, where its name is among some writes. -/
def WriteTxn.absorbedBy (ws : List CaptureWrite) (x : WriteTxn) : WriteTxn :=
  if ∃ w ∈ ws, w.key = x.key then { x with service := .absorbed, response := some .okay } else x

/-- A list of writes is absorbed, each counted as an orphan. -/
theorem State.absorbOrphans_eq (i : Fin 16) (ws : List CaptureWrite) (s : State) :
    ws.foldl (fun s w => s.absorbOrphan i w.key) s = { s with
      transit := { s.transit with writes := s.transit.writes.map (WriteTxn.absorbedBy ws) }
      streams := modAt s.streams i (fun st => { st with cap := { st.cap with
        orphans := if ws = [] then st.cap.orphans else min 65535 (st.cap.orphans + ws.length) } }) } := by
  induction ws generalizing s with
  | nil =>
    have none : s.transit.writes.map (WriteTxn.absorbedBy []) = s.transit.writes :=
      (List.map_congr_left fun x _ => by simp [WriteTxn.absorbedBy]).trans (List.map_id _)
    rw [List.foldl_nil, none]
    simp only [if_true, modAt_same]
  | cons w ws ih =>
    rw [List.foldl_cons, ih]
    simp only [State.absorbOrphan, State.absorb, State.modCapture, State.modStream, State.modTransit, Transit.modWrite,
      List.map_map, modAt_modAt]
    have writes : s.transit.writes.map (WriteTxn.absorbedBy ws ∘ fun x => if x.key = w.key then
        { x with service := .absorbed, response := some .okay } else x) = s.transit.writes.map (WriteTxn.absorbedBy (w :: ws)) := by
      refine List.map_congr_left fun x _ => ?_
      by_cases own : x.key = w.key
      · by_cases again : ∃ v ∈ ws, v.key = x.key <;> simp [WriteTxn.absorbedBy, own]
      · simp [WriteTxn.absorbedBy, own, Ne.symm own]
    rw [writes]
    refine congrArg (fun v => { s with
      transit := { s.transit with writes := s.transit.writes.map (WriteTxn.absorbedBy (w :: ws)) }, streams := v })
      (modAt_congr _ _ _ _ ?_)
    by_cases empty : ws = []
    · simp [empty, satAdd, top16]
    · simp [empty, satAdd, top16]
      omega

/-- The frame in progress is abandoned at a disable: handed back at once, or kept until its writes are answered (R20). -/
def State.abandonFilling (s : State) (i : Fin 16) : State :=
  match (s.stream i).cap.fill with
  | none => s
  | some f =>
    if (s.stream i).cap.awaiting = 0 then s.abandonFrame i f
    else (s.modAcc i (fun a => a.dropTo .idle)).modCapture i (fun c => { c with fill := none, abandoned := some f.slot })

theorem State.stopCapture_abandonFilling (s : State) (i : Fin 16) : s.stopCapture i =
    (((s.stream i).cap.heldWrites.foldl (fun s w => s.absorbOrphan i w.key) (s.abandonFilling i)).modCapture i
      (fun c => { c with heldWrites := [], freshness := .noSignal, timer := none })).modEvals (fun e => e.remove i) := rfl

/-- A stream whose frame in progress is abandoned at a disable. -/
def Stream.abandonFilling (st : Stream) : Stream :=
  { st with
    acc := if st.cap.fill = none then st.acc else { st.acc.clearSums with state := .idle }
    cap := { st.cap with
      fill := none
      abandoned := match st.cap.fill with
        | none => st.cap.abandoned
        | some f => if st.cap.awaiting = 0 then st.cap.abandoned else some f.slot } }

section AbandonFilling
variable {st : Stream} {f : Filling}

theorem Stream.abandonFilling_of_none (none : st.cap.fill = none) : st.abandonFilling = st := by
  obtain ⟨cfg, ⟨fill, awaiting, held, abandoned, freshness, timer, last, missed, orphans, lost⟩, acc, tiles, lens⟩ := st
  subst none
  rfl

theorem Stream.abandonFilling_of_quiet (some : st.cap.fill = some f) (quiet : st.cap.awaiting = 0) : st.abandonFilling =
    { st with acc := st.acc.dropTo .idle, cap := { st.cap with fill := none } } := by
  simp only [Stream.abandonFilling, some, quiet, if_true, reduceCtorEq, if_false, Accumulators.dropTo]

theorem Stream.abandonFilling_of_awaiting (some : st.cap.fill = .some f) (awaits : st.cap.awaiting ≠ 0) : st.abandonFilling =
    { st with acc := st.acc.dropTo .idle, cap := { st.cap with fill := none, abandoned := .some f.slot } } := by
  simp only [Stream.abandonFilling, some, awaits, reduceCtorEq, if_false, Accumulators.dropTo]

end AbandonFilling

theorem State.abandonFilling_eq (s : State) (i : Fin 16) : s.abandonFilling i = { s with
    pool := match (s.stream i).cap.fill with
      | none => s.pool
      | some f => if (s.stream i).cap.awaiting = 0 then s.pool.handBack f.slot else s.pool
    streams := modAt s.streams i Stream.abandonFilling } := by
  unfold State.abandonFilling
  split
  · rename_i none
    rw [modAt_same _ _ _ (Stream.abandonFilling_of_none none)]
  · rename_i f some
    split
    · rename_i quiet
      rw [modAt_congr s.streams i Stream.abandonFilling
        (fun st => { st with acc := st.acc.dropTo .idle, cap := { st.cap with fill := none } })
        (Stream.abandonFilling_of_quiet some quiet)]
      simp only [State.abandonFrame, State.modCapture, State.modAcc, State.modStream, State.modPool, modAt_modAt]
    · rename_i awaits
      rw [modAt_congr s.streams i Stream.abandonFilling
        (fun st => { st with acc := st.acc.dropTo .idle, cap := { st.cap with fill := none, abandoned := .some f.slot } })
        (Stream.abandonFilling_of_awaiting some awaits)]
      simp only [State.modCapture, State.modAcc, State.modStream, modAt_modAt]

/-- What DISABLE STREAM does to the running part in ACTIVE. -/
theorem State.stopCapture_eq (s : State) (i : Fin 16) : s.stopCapture i = { s with
    transit := { s.transit with writes := s.transit.writes.map (WriteTxn.absorbedBy (s.stream i).cap.heldWrites) }
    pool := match (s.stream i).cap.fill with
      | none => s.pool
      | some f => if (s.stream i).cap.awaiting = 0 then s.pool.handBack f.slot else s.pool
    evals := { s.evals with queue := s.evals.queue.filter (fun r => !decide (r.stream = i)) }
    streams := modAt s.streams i (fun st => { st with
      acc := if st.cap.fill = none then st.acc else { st.acc.clearSums with state := .idle }
      cap := { st.cap with
        fill := none
        abandoned := match st.cap.fill with
          | none => st.cap.abandoned
          | some f => if st.cap.awaiting = 0 then st.cap.abandoned else some f.slot
        heldWrites := []
        orphans := if st.cap.heldWrites = [] then st.cap.orphans
          else min 65535 (st.cap.orphans + st.cap.heldWrites.length)
        freshness := .noSignal
        timer := none } }) } := by
  rw [State.stopCapture_abandonFilling, State.absorbOrphans_eq, State.abandonFilling_eq]
  simp only [State.modCapture, State.modStream, State.modEvals, modAt_modAt]
  rfl

/-- DOOR_BLIND of a stream, in ACTIVE (R144). -/
theorem State.blindStream_active {s : State} (active : s.transit.mode = .active) (i : Fin 16) (code : Nat) :
    s.blindStream i code = { s with
      notices := if (s.stream i).cfg.role = .door ∧ (∃ d : Fin 12, (s.stream i).cfg.door = d.val ∧ s.lines.doorOpen d = true)
        then s.notices.take s.time .doorBlind (s.stream i).cfg.door code else s.notices } := by
  have live : s.isLive = true := decide_eq_true (.inl active)
  unfold State.blindStream
  split
  · rename_i none
    rw [if_neg]
    rintro ⟨-, d, door, -⟩
    have := index?_eq_none.1 none
    omega
  · rename_i d some
    have door := index?_eq_some.1 some
    split
    · rename_i opened
      rw [if_pos ⟨opened.1, d, door, opened.2⟩, State.sendBlind, if_pos live, door]
      rfl
    · rename_i closed
      rw [if_neg]
      rintro ⟨role, d', door', opened⟩
      obtain rfl : d = d' := Fin.ext (door.symm.trans door')
      exact closed ⟨role, opened⟩

/-! ### DISABLE STREAM (R20) -/

section Disable
variable {s : State}

theorem exec_disableStream (hears : s.hears) (i : Fin 16) : exec (.disableStream (frameOf [BitVec.ofNat 8 i.val])) s = .next (
    if (s.stream i).cfg.enabled = true then ((s.driveZeros (frameOf [BitVec.ofNat 8 i.val])).disable i).reply .done []
    else s.responds 3 .done []) := by
  refine congrArg Host.Outcome.next ((State.request_frameOf (ps := [BitVec.ofNat 8 i.val]) hears rfl (by simp) _).trans ?_)
  simp only [State.doDisableStream, field_cons, streamByte_toNat, index?_val]
  rfl

theorem State.disable_of_not_active (inactive : s.transit.mode ≠ .active) (i : Fin 16) :
    s.disable i = s.modStream i fun st => { st with cfg := { st.cfg with enabled := false } } := if_neg inactive

/-- DISABLE STREAM in ACTIVE. -/
theorem State.disable_of_active (active : s.transit.mode = .active) (i : Fin 16) : s.disable i = { s with
    transit := { s.transit with writes := s.transit.writes.map (fun x =>
      if ∃ w ∈ (s.stream i).cap.heldWrites, w.key = x.key then
        { x with service := .absorbed, response := some .okay } else x) }
    notices := if (s.stream i).cfg.role = .door ∧ (∃ d : Fin 12, (s.stream i).cfg.door = d.val ∧ s.lines.doorOpen d = true)
      then s.notices.take s.time .doorBlind (s.stream i).cfg.door 2 else s.notices
    pool := match (s.stream i).cap.fill with
      | none => s.pool
      | some f => if (s.stream i).cap.awaiting = 0 then s.pool.handBack f.slot else s.pool
    evals := { s.evals with queue := s.evals.queue.filter (fun r => !decide (r.stream = i)) }
    streams := modAt s.streams i (fun st => { st with
      cfg := { st.cfg with enabled := false }
      acc := if st.cap.fill = none then st.acc else { st.acc.clearSums with state := .idle }
      cap := { st.cap with
        fill := none
        abandoned := match st.cap.fill with
          | none => st.cap.abandoned
          | some f => if st.cap.awaiting = 0 then st.cap.abandoned else some f.slot
        heldWrites := []
        orphans := if st.cap.heldWrites = [] then st.cap.orphans
          else min 65535 (st.cap.orphans + st.cap.heldWrites.length)
        freshness := .noSignal
        timer := none } }) } := by
  have blind : s.disable i = State.blindStream
      ((s.modStream i fun st => { st with cfg := { st.cfg with enabled := false } }).stopCapture i) i 2 := if_pos active
  rw [blind, State.blindStream_active (by rw [State.stopCapture_eq]; exact active), State.stopCapture_eq, State.modStream_self]
  have cfg (v : Vector Stream 16) (f : Stream → Stream) : (modAt v i f)[i] = f v[i] := modAt_get_self v i f
  simp only [State.stream, cfg, State.modStream, modAt_modAt]
  rfl

end Disable

/-! ### ENABLE STREAM (R19) -/

section Enable
variable {s : State} {i : Fin 16}

theorem exec_enableStream (hears : s.hears) (i : Fin 16) : exec (.enableStream (frameOf [BitVec.ofNat 8 i.val])) s
    = .next ((s.driveZeros (frameOf [BitVec.ofNat 8 i.val])).doEnableStream [BitVec.ofNat 8 i.val]) :=
  congrArg Host.Outcome.next (State.request_frameOf (ps := [BitVec.ofNat 8 i.val]) hears rfl (by simp) _)

theorem State.doEnableStream_of_no_role (role : (s.stream i).cfg.role = .none) :
    s.doEnableStream [BitVec.ofNat 8 i.val] = s.refuse .state := by
  simp only [State.doEnableStream, field_cons, streamByte_toNat, index?_val, role, if_true]

theorem State.doEnableStream_of_not_active (role : (s.stream i).cfg.role ≠ .none) (inactive : s.transit.mode ≠ .active) :
    s.doEnableStream [BitVec.ofNat 8 i.val] = s.enableChecked i := by
  simp only [State.doEnableStream, field_cons, streamByte_toNat, index?_val]
  rw [if_neg role, if_neg inactive]

theorem State.doEnableStream_of_no_window (role : (s.stream i).cfg.role ≠ .none) (active : s.transit.mode = .active)
    (missing : windowOfStream s.transit.windows i = none) :
    s.doEnableStream [BitVec.ofNat 8 i.val] = s.refuse .state := by
  simp only [State.doEnableStream, field_cons, streamByte_toNat, index?_val, missing]
  rw [if_neg role, if_pos active]

theorem State.doEnableStream_of_window {w : Window} (role : (s.stream i).cfg.role ≠ .none) (active : s.transit.mode = .active)
    (window : windowOfStream s.transit.windows i = some w) :
    s.doEnableStream [BitVec.ofNat 8 i.val] = if (s.stream i).cfg.enabled = false ∧ 0 < (s.stream i).cap.awaiting then
        s.refuse .state
      else if w.extent < 64 + 4 * (s.stream i).cfg.w * (s.stream i).cfg.h
          ∨ s.pool.size < 64 + 4 * (s.stream i).cfg.w * (s.stream i).cfg.h then s.refuse .tooLarge
      else s.enableChecked i := by
  simp only [State.doEnableStream, field_cons, streamByte_toNat, index?_val, window, State.frameTooLarge, decide_eq_true_eq]
  rw [if_neg role, if_pos active]
  rfl

/-- A stream enabled already is left as it is. -/
theorem State.enableChecked_of_enabled (on : (s.stream i).cfg.enabled = true) : s.enableChecked i = s.reply .done [] := if_pos on

theorem State.enableChecked_of_not_active (inactive : s.transit.mode ≠ .active) : s.enableChecked i = ({ s with
    streams := modAt s.streams i (fun st => { st with cfg := { st.cfg with enabled := true } }) } : State).reply .done [] := by
  unfold State.enableChecked State.enable
  split
  · rename_i on
    rw [modAt_same s.streams i]
    show ({ s.stream i with cfg := { (s.stream i).cfg with enabled := true } } : Stream) = s.stream i
    rw [← on]
  · rfl

theorem State.enableChecked_of_active (active : s.transit.mode = .active) (off : (s.stream i).cfg.enabled = false) :
    s.enableChecked i = ({ s with streams := modAt s.streams i (fun st => { st with
      cfg := { st.cfg with enabled := true }
      cap := { st.cap with fill := none, freshness := .noSignal, timer := none, lastSeq := none } }) } : State).reply .done [] := by
  unfold State.enableChecked State.enable
  rw [if_neg (by rw [off]; decide)]
  simp only [if_pos active]
  rfl

end Enable

/-- Settles O41: the windows, the flags and the awaiting count choose the branch of ENABLE STREAM; DISABLE STREAM is
`disable`, which in ACTIVE stops the capture and then tests the door. -/
theorem enableAndDisable : Obligations.EnableAndDisable := by
  refine ⟨fun ws i => ⟨fun w => windowOfStream_eq_some, windowOfStream_eq_none⟩, fun s n hears above => ⟨?_, ?_⟩,
    fun s i hears => ⟨fun role => ?_, fun role inactive => ?_, fun role active off w window => ?_, fun role active missing => ?_,
      fun role active on w window within fits => ?_, fun off => ?_, fun on inactive => ?_, fun on active => ?_⟩⟩
  · refine congrArg Host.Outcome.next ((State.request_frameOf (ps := [n]) hears rfl (by simp) _).trans ?_)
    simp only [State.doEnableStream, field_cons, index?_eq_none.2 (show 16 ≤ n.toNat by omega)]
    rfl
  · refine congrArg Host.Outcome.next ((State.request_frameOf (ps := [n]) hears rfl (by simp) _).trans ?_)
    simp only [State.doDisableStream, field_cons, index?_eq_none.2 (show 16 ≤ n.toNat by omega)]
    rfl
  · rw [exec_enableStream hears i, State.doEnableStream_of_no_role (by exact role)]
    rfl
  · rw [exec_enableStream hears i, State.doEnableStream_of_not_active (by exact role) (by exact inactive),
      State.enableChecked_of_not_active (by exact inactive)]
    rfl
  · rw [exec_enableStream hears i, State.doEnableStream_of_window (by exact role) (by exact active) (by exact window),
      State.enableChecked_of_active (by exact active) (by exact off)]
    refine congrArg Host.Outcome.next (if_congr ⟨fun h => h.2, fun h => ⟨off, h⟩⟩ rfl rfl)
  · rw [exec_enableStream hears i, State.doEnableStream_of_no_window (by exact role) (by exact active) (by exact missing)]
    rfl
  · rw [exec_enableStream hears i, State.doEnableStream_of_window (by exact role) (by exact active) (by exact window),
      State.enableChecked_of_enabled (by exact on), if_neg fun h => absurd (on.symm.trans h.1) (by decide),
      if_neg (by simp only [State.driveZeros_stream, State.driveZeros_pool]; omega)]
    rfl
  · rw [exec_disableStream hears i, if_neg (by rw [off]; decide)]
  · rw [exec_disableStream hears i, if_pos on, State.disable_of_not_active (by exact inactive)]
    rfl
  · rw [exec_disableStream hears i, if_pos on, State.disable_of_active (by exact active)]
    rfl

end Sys2Proof.Machine
end

section
/-! PROOFS. Dump writes answered (R182, R183), the readouts field by field (R180), and the two edges of RESET_N (R16,
R184). -/

namespace Sys2Proof.Machine

/-! ### The n-th issued request of a kind (R4, log entry 4) -/

/-- The n-th issued request of a kind is the one with n of its kind before it. -/
theorem answerDown_nth {p : DownReq → Bool} {pre post : List DownReq} {r : DownReq} (own : p r = true) :
    answerDown p (pre.filter p).length (pre ++ r :: post)
      = some (r, pre ++ if r.left ≤ 1 then post else { r with left := r.left - 1 } :: post) := by
  induction pre with
  | nil => simp [answerDown, own]
  | cons y pre ih =>
    by_cases kind : p y = true
    · simp [answerDown, kind, ih]
    · simp [answerDown, kind, ih]

/-- The only answer beat, or the response, of the n-th issued request of a kind: it leaves the port. -/
theorem State.matchDown_nth {s : State} {p : DownReq → Bool} {pre post : List DownReq} {r : DownReq} {n : Nat} (beat : ReadBeat)
    (issued : s.transit.downIssued = pre ++ r :: post) (place : (pre.filter p).length = n) (own : p r = true)
    (last : r.left = 1) : s.matchDown p n beat
      = ({ s with transit := { s.transit with downIssued := pre ++ post } } : State).answered r.owner beat := by
  unfold State.matchDown
  rw [issued, ← place, answerDown_nth own, if_pos last.le]
  rfl

/-! ### The response of a dump write (R182) -/

section Dump
variable {s : State} {d : Dump}

theorem State.dumpAnswered_waits {resp : Resp} (running : s.port.dump = some d) (more : 2 ≤ d.awaiting) :
    s.dumpAnswered resp = { s with port := { s.port with dump := some { d with
      awaiting := d.awaiting - 1, error := d.error || decide (resp = .error) } } } := by
  simp only [State.dumpAnswered, running]
  exact if_neg (by omega)

/-- Both writes answered: the dump goes on, or ends. -/
theorem State.dumpAnswered_last {resp : Resp} (running : s.port.dump = some d) (last : d.awaiting = 1) :
    s.dumpAnswered resp = (s.modPort fun p => { p with dump := some { d with
      awaiting := 0, error := d.error || decide (resp = .error) } }).dumpProceed
        { d with awaiting := 0, error := d.error || decide (resp = .error) } := by
  simp only [State.dumpAnswered, running, last]
  exact if_pos trivial

theorem State.dumpProceed_of_error (error : d.error = true) :
    s.dumpProceed d = (s.modPort fun p => { p with dump := none }).notify .dumpFault d.stream.val d.written := if_pos error

theorem State.dumpProceed_of_last (clear : d.error = false) (last : d.last ≤ d.stream.val) :
    s.dumpProceed d = (s.modPort fun p => { p with dump := none }).notify .dumpDone 0 (d.written + 1) := by
  unfold State.dumpProceed
  rw [if_neg (by rw [clear]; decide)]
  split
  · rfl
  · exact if_neg last.not_gt

theorem State.dumpProceed_of_next {i : Fin 16} (clear : d.error = false) (next : i.val = d.stream.val + 1) (within : i.val ≤ d.last) :
    s.dumpProceed d = s.dumpBegin { d with stream := i, written := d.written + 1 } := by
  unfold State.dumpProceed
  rw [if_neg (by rw [clear]; decide), ← next, index?_val]
  exact if_pos (by omega)

end Dump

/-- Settles O49: the response goes to the running dump, unless its request is marked abandoned; with both writes answered
`dumpProceed` decides, and the next stream is begun as the first was. -/
theorem dumpWritesAreAnswered : Obligations.DumpWritesAreAnswered := by
  intro s n resp pre post r gone issued place owner left t taken
  subst taken
  have matched : exec (.dumpWriteResponse (.sinceReset n) resp) s = .next (({ s with transit := { s.transit with
      downIssued := pre ++ post } } : State).answered (.dump gone) ⟨0, resp⟩) := by
    refine congrArg Host.Outcome.next ((State.matchDown_nth ⟨0, resp⟩ issued place ?_ left).trans ?_)
    · simp [DownReq.isDump, owner]
    · rw [owner]
  refine ⟨?_, ?_⟩
  · rintro rfl
    exact matched
  · rintro rfl d running
    have answered : exec (.dumpWriteResponse (.sinceReset n) resp) s = .next (State.dumpAnswered { s with
      transit := { s.transit with downIssued := pre ++ post } } resp) := matched
    refine ⟨fun more => ?_, fun last error => ?_, fun last clear okay final => ?_, fun last clear okay i next within => ?_⟩
    · rw [answered, State.dumpAnswered_waits (by exact running) more]
    · have set : (d.error || decide (resp = .error)) = true := by simpa using error
      rw [answered, State.dumpAnswered_last (by exact running) last, State.dumpProceed_of_error set]
      rfl
    · have unset : (d.error || decide (resp = .error)) = false := by simp [clear, okay]
      rw [answered, State.dumpAnswered_last (by exact running) last, State.dumpProceed_of_last unset (by exact final)]
      rfl
    · have unset : (d.error || decide (resp = .error)) = false := by simp [clear, okay]
      rw [State.dumpAnswered_last (by exact running) last, State.dumpProceed_of_next unset (by exact next) (by exact within)] at answered
      by_cases waits : ∃ x, s.evals.current = some x ∧ x.frame.stream = i
      · rw [State.dumpBegin_of_evaluating (by exact waits)] at answered
        exact ⟨_, _, answered, rfl, rfl, rfl, rfl, rfl, rfl, unset, rfl, rfl, fun _ => ⟨rfl, rfl⟩,
          fun free => absurd waits fun ⟨x, current, same⟩ => free x current same⟩
      · have free : ∀ x, s.evals.current = some x → x.frame.stream ≠ i := fun x current same => waits ⟨x, current, same⟩
        rw [State.dumpBegin_of_idle (by exact free)] at answered
        obtain ⟨a, b, record, isRecord, writes, begun⟩ := State.dumpSnapshot_eq _ _
        rw [begun] at answered
        exact ⟨_, _, answered, rfl, rfl, rfl, rfl, rfl, rfl, unset, rfl, rfl, fun busy => absurd busy waits,
          fun _ => ⟨a, b, record, isRecord, rfl, rfl, rfl, writes⟩⟩

/-! ### The edges of RESET_N (R16, R184) -/

/-- Settles O51: what `assertReset` empties is read off it; under reset each event tests the pin first, and an answer from
before a reset is discarded before it is matched. -/
theorem pinResetClearsThePart : Obligations.PinResetClearsThePart := by
  intro s
  have streams (i : Fin 16) : (mapAll Stream.modeChange s.streams)[i] = (s.stream i).modeChange := mapAll_get ..
  refine ⟨⟨_, rfl, rfl, rfl, rfl, rfl, rfl, rfl, fun i => ?_, fun c => ?_, rfl, rfl, rfl, rfl, rfl, rfl, fun x => ?_⟩,
    fun reset => ⟨?_, fun q wf => ?_, fun q wf => ?_, fun levels order => ?_, fun n pos => ?_⟩, fun out => ?_,
    fun id n beat resp => ⟨rfl, rfl, rfl, rfl, rfl, rfl, rfl⟩⟩
  · have cap := congrArg Stream.cap (streams i)
    exact ⟨congrArg Capture.fill cap, congrArg Capture.timer cap, congrArg Capture.awaiting cap⟩
  · exact congrArg Screen.frame (mapAll_get (fun x : Screen => { x with frame := none, unlatched := 0 }) s.comp.screens c)
  · exact congrArg Side.timer (mapAll_get (fun x : Side => { x with timer := none }) s.lines.sides x)
  · exact congrArg Host.Outcome.next (if_pos reset)
  · exact (if_pos wf).trans (congrArg Host.Outcome.next (if_pos reset))
  · exact (if_pos wf).trans (congrArg Host.Outcome.next (if_pos reset))
  · exact congrArg Host.Outcome.next (if_pos reset)
  · exact (if_neg (Nat.one_le_iff_ne_zero.1 pos)).trans (congrArg Host.Outcome.next (if_pos reset))
  · exact congrArg Host.Outcome.next (if_neg (by rw [out]; decide))

/-! ### The fields of the readouts (R41, R58, R74, R95, R117, R146, R160, R180) -/

theorem flatMap_leBytes_one (l : List Nat) : l.flatMap (leBytes 1) = l.map (BitVec.ofNat 8) := by
  induction l with
  | nil => rfl
  | cons n l ih => rw [List.flatMap_cons, ih]; rfl

theorem fillBytes_eq (o : Option Filling) : fillBytes o = match o with
    | none => [0, 0xFF, 0, 0, 0, 0, 0, 0, 0, 0]
    | some f => 1 :: leBytes 1 f.slot ++ leBytes 4 f.offset
      ++ [flagByte f.disordered, flagByte f.partFrame, flagByte f.damaged, flagByte f.endMark] := by
  cases o <;> rfl

theorem sequenceBytes_eq (o : Option Seq) : optionalBytes 2 (o.map BitVec.toNat) = match o with
    | none => [0, 0, 0]
    | some q => 1 :: leBytes 2 q.toNat := by
  cases o <;> rfl

theorem freshLeft_eq (now : Time) (f : Freshness) (o : Option Time) : (if f = .live then timeLeft now o else 0) = match f, o with
    | .live, some e => (e - now).toNat
    | _, _ => 0 := by
  cases f <;> cases o <;> rfl

theorem currentBytes_eq (p : SlotPool) (i : Fin 16) : currentBytes p i = match p.currentOf i with
    | none => 0xFF :: List.replicate 11 0
    | some n => leBytes 1 n ++ leBytes 2 (p.record n).sequence.toNat ++ leBytes 4 (p.record n).stamp.toNat
      ++ leBytes 4 (p.record n).signature.toNat ++ [flagByte (p.record n).sigValid] := by
  unfold currentBytes
  cases p.currentOf i <;> rfl

/-- The presence byte and the place of a number in a list. -/
theorem placeBytes_eq {l : List Nat} {n : Nat} {bs : List Byte} (h : PlaceBytes l n bs) : optionalBytes 1 (placeIn l n) = bs := by
  obtain ⟨absent, rfl⟩ | ⟨pre, post, rfl, before, rfl⟩ := h
  · rw [placeIn, List.findIdx?_eq_none_iff.2 fun m mem => decide_eq_false fun same : m = n => absent (same ▸ mem)]
    rfl
  · have found : placeIn (pre ++ n :: post) n = some pre.length := by
      rw [placeIn, List.findIdx?_append,
        List.findIdx?_eq_none_iff.2 fun m mem => decide_eq_false fun same : m = n => before (same ▸ mem)]
      simp [List.findIdx?_cons]
    rw [found]
    rfl

theorem slotEntry_eq {p : SlotPool} {i : Fin 16} {n : Nat} {x : Slot} {free content : List Byte} (found : p.slots[n]? = some x)
    (atFree : PlaceBytes p.free n free) (atContent : PlaceBytes p.content[i] n content) :
    slotEntry p i n = leBytes 1 n ++ leBytes 1 x.life.code ++ [flagByte x.valid] ++ leBytes 2 x.sequence.toNat
      ++ leBytes 4 x.frameSize ++ leBytes 4 x.stamp.toNat ++ leBytes 4 x.signature.toNat
      ++ [flagByte x.sigValid, flagByte x.partFrame] ++ leBytes 1 x.pins
      ++ (match x.hold with
        | none => [0, 0xFF]
        | some g => 1 :: leBytes 1 g)
      ++ free ++ content := by
  have exists_ : n < p.slots.length := (List.getElem?_eq_some_iff.1 found).1
  have held : [flagByte x.hold.isSome] ++ numberOrNone x.hold = match x.hold with
      | none => [0, 0xFF]
      | some g => 1 :: leBytes 1 g := by
    cases x.hold <;> rfl
  unfold slotEntry
  dsimp only
  rw [SlotPool.record_of_some found, if_pos exists_, placeBytes_eq atFree, placeBytes_eq atContent, ← held]
  simp only [List.append_assoc]
  rfl

/-- The places of the records of a stream, counted along the queue from some number on. -/
theorem places_from (i : Fin 16) (l : List FrameRecord) (k : Nat) :
    ((l.zipIdx k).filter (fun x => decide (x.1.stream = i))).map Prod.snd
      = (List.range' k l.length).filter (fun m => decide ((l[m - k]?).map FrameRecord.stream = some i)) := by
  induction l generalizing k with
  | nil => rfl
  | cons r l ih =>
    have rest : (List.range' (k + 1) l.length).filter (fun m => decide (((r :: l)[m - k]?).map FrameRecord.stream = some i))
        = (List.range' (k + 1) l.length).filter (fun m => decide ((l[m - (k + 1)]?).map FrameRecord.stream = some i)) := by
      refine List.filter_congr fun m mem => ?_
      obtain ⟨low, -⟩ := List.mem_range'_1.1 mem
      rw [show m - k = m - (k + 1) + 1 by omega, List.getElem?_cons_succ]
    rw [List.zipIdx_cons, List.length_cons, List.range'_succ, List.filter_cons, List.filter_cons, Nat.sub_self, rest, ← ih (k + 1)]
    by_cases own : r.stream = i <;> simp [own]

theorem Evaluator.places_eq (e : Evaluator) (i : Fin 16) : e.places i
    = (List.range e.queue.length).filter (fun k => decide ((e.queue[k]?).map FrameRecord.stream = some i)) := by
  rw [Evaluator.places, places_from, List.range_eq_range']
  rfl

theorem Evaluator.places_length (e : Evaluator) (i : Fin 16) :
    (e.places i).length = (e.queue.filter (fun r => decide (r.stream = i))).length := by
  have fst : (e.queue.zipIdx.filter (fun x => decide (x.1.stream = i))).map Prod.fst
      = e.queue.filter (fun r => decide (r.stream = i)) := by
    conv_rhs => rw [← List.zipIdx_map_fst 0 e.queue, List.filter_map]
    rfl
  rw [Evaluator.places, List.length_map, ← fst, List.length_map]

theorem Stream.countReported_eq (st : Stream) (code : Nat) (p : Fin 48 → Bool)
    (h : ∀ t, decide (reportedState st.cfg t st.tiles[t] = code) = p t) :
    st.countReported code = ((List.finRange 48).filter p).length := by
  rw [Stream.countReported, List.filter_congr fun t _ => h t]

/-- The four counts of reported tile states (R77, R95). -/
theorem Stream.countsReported_eq (st : Stream) : leBytes 1 (st.countReported 0) ++ leBytes 1 (st.countReported 1)
    ++ leBytes 1 (st.countReported 2) ++ leBytes 1 (st.countReported 3)
    = [fun t => st.cfg.excludes t,
        fun t => !st.cfg.excludes t && decide (st.tiles[t].state = .learning),
        fun t => !st.cfg.excludes t && decide (st.tiles[t].state = .sharp),
        fun t => !st.cfg.excludes t && decide (st.tiles[t].state = .blurred)].map
      (fun (p : Fin 48 → Bool) => BitVec.ofNat 8 ((List.finRange 48).filter p).length) := by
  have reported (t : Fin 48) : reportedState st.cfg t st.tiles[t] = if st.cfg.excludes t = true then 0 else
      match st.tiles[t].state with
      | .learning => 1
      | .sharp => 2
      | .blurred => 3 := rfl
  rw [st.countReported_eq 0 (fun t => st.cfg.excludes t) fun t => by
      rw [reported]; cases st.cfg.excludes t <;> cases st.tiles[t].state <;> rfl,
    st.countReported_eq 1 (fun t => !st.cfg.excludes t && decide (st.tiles[t].state = .learning)) fun t => by
      rw [reported]; cases st.cfg.excludes t <;> cases st.tiles[t].state <;> rfl,
    st.countReported_eq 2 (fun t => !st.cfg.excludes t && decide (st.tiles[t].state = .sharp)) fun t => by
      rw [reported]; cases st.cfg.excludes t <;> cases st.tiles[t].state <;> rfl,
    st.countReported_eq 3 (fun t => !st.cfg.excludes t && decide (st.tiles[t].state = .blurred)) fun t => by
      rw [reported]; cases st.cfg.excludes t <;> cases st.tiles[t].state <;> rfl]
  rfl

theorem numberOrNone_map_val (o : Option (Fin 16)) : numberOrNone (o.map Fin.val) = match o with
    | none => [0xFF]
    | some i => leBytes 1 i.val := by
  cases o <;> rfl

theorem numberOrNone_eq (o : Option Nat) : numberOrNone o = match o with
    | none => [0xFF]
    | some n => leBytes 1 n := by
  cases o <;> rfl

theorem timeLeft_eq (now : Time) (o : Option Time) : timeLeft now o = match o with
    | none => 0
    | some e => (e - now).toNat := by
  cases o <;> rfl

/-- A table's entries in the order of their numbers. -/
theorem vector_toList_eq {α : Type} {n : Nat} (v : Vector α n) : v.toList = (List.finRange n).map fun i => v[i] := by
  refine List.ext_getElem (by simp) fun k below _ => by simp

/-! ### The readout commands (R180) -/

section Commands
variable {s : State}

/-- A part of READ STREAM STATUS is the answer when the stream and the part exist. -/
theorem exec_readStreamStatus_of_some (hears : s.hears) {stream part : Byte} {i : Fin 16} {data : List Byte}
    (hi : stream.toNat = i.val) (hpart : s.streamStatus i part.toNat = some data) :
    exec (.readStreamStatus (frameOf [stream, part])) s = .next (s.responds 4 .done data) := by
  refine congrArg Host.Outcome.next ((State.request_frameOf (ps := [stream, part]) hears rfl (by simp) _).trans ?_)
  have kept : (s.driveZeros (frameOf [stream, part])).streamStatus i part.toNat = some data := hpart
  simp only [State.doReadStreamStatus, (fields_two stream part).1, (fields_two stream part).2, hi, index?_val, kept]
  rfl

theorem State.streamStatus_of_above {i : Fin 16} {n : Nat} (above : 3 < n) : s.streamStatus i n = none := by
  obtain ⟨k, rfl⟩ := Nat.exists_eq_add_of_le' above
  rfl

theorem exec_readStreamStatus_of_none (hears : s.hears) {stream part : Byte} (bad : 15 < stream.toNat ∨ 3 < part.toNat) :
    exec (.readStreamStatus (frameOf [stream, part])) s = .next (s.responds 4 .badParam []) := by
  refine congrArg Host.Outcome.next ((State.request_frameOf (ps := [stream, part]) hears rfl (by simp) _).trans ?_)
  simp only [State.doReadStreamStatus, (fields_two stream part).1, (fields_two stream part).2]
  cases named : index? 16 stream.toNat with
  | none => rfl
  | some i =>
    have low : stream.toNat ≤ 15 := (index?_eq_some.1 named) ▸ Nat.le_of_lt_succ i.isLt
    dsimp only
    rw [State.streamStatus_of_above (bad.resolve_left low.not_gt)]
    rfl

theorem exec_readScreenStatus_of_some (hears : s.hears) {screen : Byte} {c : Fin 2} (hc : screen.toNat = c.val) :
    exec (.readScreenStatus (frameOf [screen])) s = .next (s.responds 3 .done (s.screenStatus c)) := by
  refine congrArg Host.Outcome.next ((State.request_frameOf (ps := [screen]) hears rfl (by simp) _).trans ?_)
  simp only [State.doReadScreenStatus, field_cons, hc, index?_val]
  rfl

theorem exec_readScreenStatus_of_none (hears : s.hears) {screen : Byte} (above : 1 < screen.toNat) :
    exec (.readScreenStatus (frameOf [screen])) s = .next (s.responds 3 .badParam []) := by
  refine congrArg Host.Outcome.next ((State.request_frameOf (ps := [screen]) hears rfl (by simp) _).trans ?_)
  simp only [State.doReadScreenStatus, field_cons, index?_eq_none.2 (show 2 ≤ screen.toNat from above)]
  rfl

theorem exec_readPart (hears : s.hears) : exec (.readPart (frameOf [])) s = .next (s.responds 2 .done s.partStatus) :=
  congrArg Host.Outcome.next (State.request_frameOf (ps := []) hears rfl (Nat.zero_le _) _)

theorem exec_readHolds (hears : s.hears) : exec (.readHolds (frameOf [])) s = .next (s.responds 2 .done s.holdStatus) :=
  congrArg Host.Outcome.next (State.request_frameOf (ps := []) hears rfl (Nat.zero_le _) _)

theorem exec_readLines (hears : s.hears) : exec (.readLines (frameOf [])) s = .next (s.responds 2 .done s.lineStatus) :=
  congrArg Host.Outcome.next (State.request_frameOf (ps := []) hears rfl (Nat.zero_le _) _)

end Commands

/-- The device mode, the pending change and the pool set flag as bytes. -/
theorem partBytes_eq (m : Mode) (c : Change) (b : Bool) :
    leBytes 2 0x7A16 ++ leBytes 1 1 ++ leBytes 1 m.code ++ leBytes 1 c.code ++ [flagByte b] = [0x16, 0x7A, 1,
      match m with
        | .pass => 0
        | .draining => 1
        | .active => 2,
      match c with
        | .none => 0
        | .enterActive => 1
        | .returnToPass => 2
        | .softReset => 3,
      if b = true then 1 else 0] := by
  cases m <;> cases c <;> cases b <;> rfl

theorem evaluationBytes_eq (e : Evaluator) (i : Fin 16) : evaluationBytes e i = match e.current with
    | none => [0, 0, 0, 0]
    | some x => if x.frame.stream = i then 1 :: leBytes 2 x.frame.sequence.toNat ++ [flagByte x.discard]
        else [0, 0, 0, 0] := rfl

theorem placesBytes_eq (e : Evaluator) (i : Fin 16) : listBytes (leBytes 1) (e.places i)
    = leBytes 1 (e.queue.filter (fun r => decide (r.stream = i))).length
      ++ ((List.range e.queue.length).filter
          (fun k => decide ((e.queue[k]?).map FrameRecord.stream = some i))).map (BitVec.ofNat 8) := by
  rw [listBytes, e.places_length, flatMap_leBytes_one, e.places_eq]

theorem paneEntry_eq (v : ViewPane) : paneEntry v = leBytes 1 v.pane.stream.val ++ leBytes 2 v.pane.sx ++ leBytes 2 v.pane.sy
    ++ leBytes 2 v.pane.sw ++ leBytes 2 v.pane.sh ++ leBytes 1 v.pane.k ++ leBytes 2 v.pane.dx
    ++ leBytes 2 v.pane.dy ++ [flagByte v.pane.mirror, flagByte v.pane.badge]
    ++ (match v.slot with
      | none => [0xFF]
      | some n => leBytes 1 n)
    ++ leBytes 1 v.overlay.code := by
  rw [paneEntry, numberOrNone_eq]

theorem frameBytes_eq (now : Time) (o : Option ScreenFrame) : frameBytes now o = match o with
    | none => 0xFF :: List.replicate 15 0
    | some f => [flagByte f.expired] ++ leBytes 1 f.kind.code
      ++ (match f.layout with
        | none => [0xFF]
        | some m => leBytes 1 m.val)
      ++ leBytes 4 f.latched.toNat ++ [flagByte f.endSeen] ++ leBytes 1 f.inFlight ++ leBytes 2 f.accepted
      ++ leBytes 4 (match f.timer with
        | none => 0
        | some e => (e - now).toNat)
      ++ leBytes 1 f.panes.length ++ f.panes.flatMap paneEntry := by
  cases o with
  | none => rfl
  | some f =>
    simp only [frameBytes, numberOrNone_map_val, timeLeft_eq, listBytes, List.append_assoc]

theorem keptBytes_eq (o : Option KeptView) : keptBytes o = match o with
    | none => [0, 0]
    | some v => 1 :: leBytes 1 v.kind.code := by
  cases o <;> rfl

theorem mappingBytes_eq (o : Option Mapping) : mappingBytes o = match o with
    | none => [0xFF, 0, 0xFF, 0]
    | some m => leBytes 1 m.group ++ leBytes 1 m.index ++ leBytes 1 m.slot ++ [flagByte m.autoRelease] := by
  cases o <;> rfl

theorem lineEntries_eq (v : Vector LineRecord 15) : v.toList.flatMap lineEntry
    = (List.finRange 15).flatMap fun l => [flagByte v[l].sampled, flagByte v[l].debounced] ++ leBytes 1 v[l].run := by
  rw [vector_toList_eq, List.flatMap_map]
  rfl

theorem State.sideEntry_eq (s : State) (x : Fin 2) : s.sideEntry x
    = [flagByte (s.lines.sideOpen x), flagByte s.lines.sides[x].timer.isSome]
      ++ leBytes 4 (match s.lines.sides[x].timer with
        | none => 0
        | some e => (e - s.time).toNat)
      ++ leBytes 1 s.lines.sides[x].kept.length ++ s.lines.sides[x].kept.map (BitVec.ofNat 8) := by
  simp only [State.sideEntry, timeLeft_eq, listBytes, flatMap_leBytes_one, List.append_assoc]

theorem flatMap_sides (f : Fin 2 → List Byte) : [(0 : Fin 2), 1].flatMap f = f 0 ++ f 1 := by simp

/-- Settles O50: a readout replies with a function of the state, and each such function is the concatenation of its
fields, the encodings of the optional ones read case by case. -/
theorem readoutsChangeNothing : Obligations.ReadoutsChangeNothing := by
  refine ⟨⟨rfl, rfl, rfl, rfl, rfl, rfl, rfl, rfl⟩, fun s hears => ⟨?_, exec_readHolds hears, exec_readLines hears,
    fun screen c hc => exec_readScreenStatus_of_some hears hc, fun stream i hi => ⟨exec_readStreamStatus_of_some hears hi rfl,
      exec_readStreamStatus_of_some hears hi rfl, exec_readStreamStatus_of_some hears hi rfl,
      exec_readStreamStatus_of_some hears hi rfl⟩, fun stream part bad => exec_readStreamStatus_of_none hears bad,
    fun screen above => exec_readScreenStatus_of_none hears above⟩, fun s i => ⟨?_, ?_, fun n x free content found atFree atContent =>
      slotEntry_eq found atFree atContent, ?_, ?_⟩, fun s c => ?_, fun s => ⟨?_, ?_⟩⟩
  · exact (exec_readPart hears).trans (congrArg (fun l => Host.Outcome.next (s.responds 2 .done l)) (partBytes_eq ..))
  · simp only [State.capturePart, fillBytes_eq, sequenceBytes_eq, freshLeft_eq, currentBytes_eq] <;> rfl
  · simp only [State.slotPart, listBytes]
  · simp only [State.statisticsPart, sequenceBytes_eq, placesBytes_eq, List.append_assoc] <;> rfl
  · simp only [State.evaluationPart, sequenceBytes_eq, evaluationBytes_eq, ← Stream.countsReported_eq, List.append_assoc] <;> rfl
  · have panes : paneEntry = _ := funext paneEntry_eq
    simp only [State.screenStatus, frameBytes_eq, keptBytes_eq, panes] <;> rfl
  · simp only [State.holdStatus, mappingBytes_eq, listBytes, List.append_assoc] <;> rfl
  · simp only [State.lineStatus, lineEntries_eq, State.sideEntry_eq, numberOrNone_map_val, flatMap_sides, List.append_assoc] <;> rfl

end Sys2Proof.Machine
end

section
/-! PROOFS. The bytes and the pixels of a capture write (R28, R30, R38, R62 to R69). -/

namespace Sys2Proof.Machine

/-! ### The beats and the bytes of a write (R1, R21) -/

theorem beatsAt_concat (o : Nat) (beats : List WriteBeat) (x : WriteBeat) :
    beatsAt o (beats ++ [x]) = beatsAt o beats ++ [(o + 16 * beats.length, x)] := by
  simp [beatsAt, List.zipIdx_append]

theorem beatsAt_getElem? (o : Nat) (beats : List WriteBeat) (k : Nat) :
    (beatsAt o beats)[k]? = (beats[k]?).map fun x => (o + 16 * k, x) := by
  simp [beatsAt, List.getElem?_zipIdx, Function.comp_def]

theorem mem_beatsAt {o : Nat} {beats : List WriteBeat} {y : Nat × WriteBeat} :
    y ∈ beatsAt o beats ↔ ∃ k x, beats[k]? = some x ∧ y = (o + 16 * k, x) := by
  simp only [List.mem_iff_getElem?, beatsAt_getElem?, Option.map_eq_some_iff]
  exact ⟨fun ⟨k, x, hx, hy⟩ => ⟨k, x, hx, hy.symm⟩, fun ⟨k, x, hx, hy⟩ => ⟨k, x, hx, hy.symm⟩⟩

section Bytes
variable {beats : List WriteBeat} {k n : Nat} {x : WriteBeat}

theorem writtenStrobe_eq (h : beats[k]? = some x) (low : n < 16) : writtenStrobe beats (16 * k + n) = x.strobes.getLsbD n := by
  rw [writtenStrobe, show (16 * k + n) / 16 = k by omega, show (16 * k + n) % 16 = n by omega, h]

theorem writtenByte_eq (h : beats[k]? = some x) (low : n < 16) : writtenByte beats (16 * k + n) = strobedByte x n := by
  rw [writtenByte, show (16 * k + n) / 16 = k by omega, show (16 * k + n) % 16 = n by omega, h]
  rfl

theorem writtenByte_append (more : List WriteBeat) (below : n < 16 * beats.length) :
    writtenByte (beats ++ more) n = writtenByte beats n := by
  rw [writtenByte, writtenByte, List.getElem?_append_left (by omega)]

theorem writtenStrobe_append (more : List WriteBeat) (below : n < 16 * beats.length) :
    writtenStrobe (beats ++ more) n = writtenStrobe beats n := by
  rw [writtenStrobe, writtenStrobe, List.getElem?_append_left (by omega)]

/-- A pixel of a beat is complete by its four strobes, and its bytes are then written bytes (R63, R64). -/
theorem writtenLuma_eq (h : beats[k]? = some x) (low : n < 4) : writtenLuma beats (16 * k + 4 * n) = pixelLuma x n := by
  have strobe (j : Nat) (hj : j < 4) : writtenStrobe beats (16 * k + 4 * n + j) = x.strobes.getLsbD (4 * n + j) := by
    rw [Nat.add_assoc, writtenStrobe_eq h (by omega)]
  have byte (j : Nat) (hj : j < 4) (set : x.strobes.getLsbD (4 * n + j) = true) :
      writtenByte beats (16 * k + 4 * n + j) = lineByte x.data (4 * n + j) := by
    rw [Nat.add_assoc, writtenByte_eq h (by omega)]
    exact if_pos set
  have all : (∀ j < 4, writtenStrobe beats (16 * k + 4 * n + j) = true)
      ↔ (List.range 4).all (fun j => x.strobes.getLsbD (4 * n + j)) = true := by
    rw [List.all_eq_true]
    exact ⟨fun set j hj => strobe j (List.mem_range.1 hj) ▸ set j (List.mem_range.1 hj),
      fun set j hj => (strobe j hj).trans (set j (List.mem_range.2 hj))⟩
  unfold writtenLuma pixelLuma
  by_cases complete : (List.range 4).all (fun j => x.strobes.getLsbD (4 * n + j)) = true
  · have set (j : Nat) (hj : j < 4) := List.all_eq_true.1 complete j (List.mem_range.2 hj)
    rw [if_pos (all.2 complete), if_pos complete, byte 1 (by omega) (set 1 (by omega)), byte 2 (by omega) (set 2 (by omega)),
      ← Nat.add_zero (16 * k + 4 * n), byte 0 (by omega) (set 0 (by omega))]
    rfl
  · rw [if_neg fun set => complete (all.1 set), if_neg complete]

theorem writtenLuma_append (more : List WriteBeat) (below : n + 3 < 16 * beats.length) :
    writtenLuma (beats ++ more) n = writtenLuma beats n := by
  have all : (∀ j < 4, writtenStrobe (beats ++ more) (n + j) = true) ↔ ∀ j < 4, writtenStrobe beats (n + j) = true :=
    forall₂_congr fun j hj => by rw [writtenStrobe_append more (by omega)]
  unfold writtenLuma
  rw [writtenByte_append more (by omega), writtenByte_append more (by omega), writtenByte_append more (by omega)]
  exact if_congr all rfl rfl

end Bytes

/-- What the beats that carry pixels do, unit by unit (bytes, or pixels), m units to a beat. -/
theorem foldl_pixelBeats {β : Type} {m o size : Nat} {p : Nat → Bool} (inner : β → Nat × WriteBeat → Nat → β)
    (outer : List WriteBeat → β → Nat → β)
    (select : ∀ k j, j < m → p (m * k + j) = decide (64 ≤ o + 16 * k ∧ o + 16 * k < size))
    (earlier : ∀ bs x b n, n < m * bs.length → outer (bs ++ [x]) b n = outer bs b n)
    (last : ∀ bs x b j, j < m → 64 ≤ o + 16 * bs.length →
      outer (bs ++ [x]) b (m * bs.length + j) = inner b (o + 16 * bs.length, x) j)
    (beats : List WriteBeat) (v : β) :
    (pixelBeats o size beats).foldl (fun b x => (List.range m).foldl (fun b j => inner b x j) b) v
      = ((List.range (m * beats.length)).filter p).foldl (outer beats) v := by
  induction beats using List.reverseRecOn generalizing v with
  | nil => rfl
  | append_singleton bs x ih =>
    have before : ((List.range (m * bs.length)).filter p).foldl (outer (bs ++ [x])) v
        = ((List.range (m * bs.length)).filter p).foldl (outer bs) v :=
      List.foldl_ext _ _ _ fun b n mem => earlier bs x b n (List.mem_range.1 (List.mem_of_mem_filter mem))
    rw [pixelBeats, beatsAt_concat, List.filter_append, List.foldl_append, ← pixelBeats, ih, List.length_append,
      List.length_singleton, Nat.mul_add, Nat.mul_one, List.range_add, List.filter_append, List.foldl_append, before]
    by_cases carries : 64 ≤ o + 16 * bs.length ∧ o + 16 * bs.length < size
    · have chosen : ((List.range m).map (m * bs.length + ·)).filter p = (List.range m).map (m * bs.length + ·) :=
        List.filter_eq_self.2 fun n mem => by
          obtain ⟨j, hj, rfl⟩ := List.mem_map.1 mem
          rw [select _ _ (List.mem_range.1 hj), decide_eq_true carries]
      rw [chosen, List.foldl_map, List.filter_cons_of_pos (by exact decide_eq_true carries)]
      exact List.foldl_ext _ _ _ fun b j mem => (last bs x b j (List.mem_range.1 mem) carries.1).symm
    · have chosen : ((List.range m).map (m * bs.length + ·)).filter p = [] :=
        List.filter_eq_nil_iff.2 fun n mem => by
          obtain ⟨j, hj, rfl⟩ := List.mem_map.1 mem
          rw [select _ _ (List.mem_range.1 hj), decide_eq_true_eq]
          exact carries
      rw [chosen, List.filter_cons_of_neg (by rw [decide_eq_true_eq]; exact carries)]
      rfl

/-! ### Strobes, partial mark and signature (R28, R30, R38) -/

theorem steeredBeats_length (o size : Nat) (beats : List WriteBeat) : (steeredBeats o size beats).length = beats.length := by
  simp [steeredBeats, beatsAt]

theorem steeredBeats_getElem? (o size : Nat) (beats : List WriteBeat) (k : Nat) : (steeredBeats o size beats)[k]?
    = (beats[k]?).map fun x => if o + 16 * k < size then x else { x with strobes := 0 } := by
  rw [steeredBeats, List.getElem?_map, beatsAt_getElem?, Option.map_map]
  rfl

/-- At offsets that are multiples of 16 a beat lies inside the frame with all its bytes or with none. -/
theorem steeredBeats_strobes {o size k n : Nat} {beats : List WriteBeat} {x y : WriteBeat} (ho : o % 16 = 0)
    (hs : size % 16 = 0) (hx : beats[k]? = some x) (hy : (steeredBeats o size beats)[k]? = some y) (low : n < 16) :
    y.data = x.data ∧ y.strobes.getLsbD n = (x.strobes.getLsbD n && decide (o + 16 * k + n < size)) := by
  rw [steeredBeats_getElem?, hx, Option.map_some, Option.some.injEq] at hy
  by_cases inside : o + 16 * k < size
  · rw [if_pos inside] at hy
    rw [← hy, decide_eq_true (by omega), Bool.and_true]
    exact ⟨rfl, rfl⟩
  · rw [if_neg inside] at hy
    rw [← hy, decide_eq_false (by omega), Bool.and_false]
    exact ⟨rfl, BitVec.getLsbD_zero⟩

theorem ne_allOnes_iff (v : BitVec 16) : v ≠ BitVec.allOnes 16 ↔ ∃ n, n < 16 ∧ v.getLsbD n = false := by
  constructor
  · intro ne
    by_contra none
    refine ne (BitVec.eq_of_getLsbD_eq fun n low => ?_)
    rw [BitVec.getLsbD_allOnes, decide_eq_true low]
    exact Bool.eq_true_of_not_eq_false fun clear => none ⟨n, low, clear⟩
  · rintro ⟨n, low, clear⟩ rfl
    rw [BitVec.getLsbD_allOnes, decide_eq_true low] at clear
    cases clear

/-- A frame byte of the write has its strobe clear (R30). -/
theorem hasClearStrobe_iff {o size : Nat} {beats : List WriteBeat} (ho : o % 16 = 0) (hs : size % 16 = 0) :
    hasClearStrobe o size beats = true
      ↔ ∃ n, n < 16 * beats.length ∧ o + n < size ∧ writtenStrobe beats n = false := by
  rw [hasClearStrobe, List.any_eq_true]
  constructor
  · rintro ⟨y, mem, clear⟩
    obtain ⟨k, x, hx, rfl⟩ := mem_beatsAt.1 mem
    obtain ⟨inside, ne⟩ := of_decide_eq_true clear
    obtain ⟨n, low, off⟩ := (ne_allOnes_iff _).1 ne
    have below : k < beats.length := (List.getElem?_eq_some_iff.1 hx).1
    exact ⟨16 * k + n, by omega, by dsimp only at inside; omega, (writtenStrobe_eq hx low).trans off⟩
  · rintro ⟨n, below, inside, off⟩
    have hx : beats[n / 16]? = some beats[n / 16] := List.getElem?_eq_getElem (by omega)
    refine ⟨_, mem_beatsAt.2 ⟨n / 16, _, hx, rfl⟩, decide_eq_true ⟨by dsimp only; omega, (ne_allOnes_iff _).2
      ⟨n % 16, Nat.mod_lt _ (by decide), ?_⟩⟩⟩
    rw [← writtenStrobe_eq hx (Nat.mod_lt _ (by decide)), Nat.div_add_mod]
    exact off

theorem crcByte_eq (c : BitVec 32) (b : Byte) : crcByte c b = shiftedOut 8 (c ^^^ b.setWidth 32) := rfl

/-- The signature takes the frame bytes from 64 on, one by one (R38). -/
theorem crcWrite_eq {o size : Nat} (ho : o % 16 = 0) (hs : size % 16 = 0) (v : BitVec 32) (beats : List WriteBeat) :
    crcWrite v o size beats
      = ((List.range (16 * beats.length)).filter (fun n => decide (64 ≤ o + n ∧ o + n < size))).foldl
          (fun v n => shiftedOut 8 (v ^^^ (writtenByte beats n).setWidth 32)) v := by
  refine foldl_pixelBeats (fun c x n => crcByte c (strobedByte x.2 n))
    (fun beats v n => shiftedOut 8 (v ^^^ (writtenByte beats n).setWidth 32)) (fun k j low => ?_) (fun bs x b n below => ?_)
    (fun bs x b j low _ => ?_) beats v
  · exact decide_eq_decide.2 (by omega)
  · rw [writtenByte_append _ below]
  · rw [writtenByte_eq (x := x) (by simp) low, crcByte_eq]

/-! ### Pixels and tiles (R62 to R69) -/

section Pixels
variable (a : Accumulators) (p y : Nat)

theorem Accumulators.gradient_eq : a.gradient p y = match a.carried with
    | none => none
    | some (z, q) => if 1 ≤ p % a.w ∧ q + 1 = p then some (if z ≤ y then y - z else z - y) else none := by
  have apart (z : Nat) : max y z - min y z = if z ≤ y then y - z else z - y := by split <;> omega
  unfold Accumulators.gradient
  cases a.carried with
  | none => rfl
  | some c => exact if_congr Iff.rfl (congrArg some (apart c.1)) rfl

theorem Accumulators.takePixel_tiles : (a.takePixel p (some y)).tiles
    = modAt a.tiles (tileOf a.tw a.th (p % a.w) (p / a.w)) fun x =>
        { edge := x.edge + (a.gradient p y).getD 0
          grad := x.grad + (if (a.gradient p y).isSome then 1 else 0)
          luma := x.luma + y
          pix := x.pix + 1 } := rfl

end Pixels

/-- In COLLECTING the pixels of a write are handed over one by one (R63). -/
theorem Accumulators.takeWrite_eq {o size : Nat} (ho : o % 16 = 0) (hs : size % 16 = 0) (a : Accumulators)
    (collects : a.state = .collecting) (beats : List WriteBeat) : a.takeWrite o size beats
      = ((List.range (4 * beats.length)).filter (fun k => decide (64 ≤ o + 4 * k ∧ o + 4 * k < size))).foldl
          (fun b k => b.takePixel ((o + 4 * k - 64) / 4) (writtenLuma beats (4 * k))) a := by
  refine (if_pos collects).trans ?_
  refine foldl_pixelBeats (fun a x i => Accumulators.takePixel a ((x.1 - Config.headerBytes) / 4 + i) (pixelLuma x.2 i))
    (fun beats b k => Accumulators.takePixel b ((o + 4 * k - 64) / 4) (writtenLuma beats (4 * k))) (fun k j low => ?_)
    (fun bs x b n below => ?_) (fun bs x b j low from_ => ?_) beats a
  · exact decide_eq_decide.2 (by omega)
  · rw [writtenLuma_append _ (by omega)]
  · have index : (o + 4 * (4 * bs.length + j) - 64) / 4 = (o + 16 * bs.length - Config.headerBytes) / 4 + j := by
      rw [Config.headerBytes]; omega
    rw [index, show 4 * (4 * bs.length + j) = 16 * bs.length + 4 * j by omega, writtenLuma_eq (x := x) (by simp) low]

/-- Settles O24: one pixel changes the entry of its tile, and the beats of a write hand their pixels over in order. -/
theorem pixelsAreCountedInTheirTiles : Obligations.PixelsAreCountedInTheirTiles := by
  refine ⟨fun a p y t g at_ grad => ⟨?_, fun k other => ?_, rfl, rfl⟩, fun a p => rfl, fun r g b => ?_,
    fun a o size beats ho hs => ⟨fun collects => a.takeWrite_eq ho hs collects beats, fun idle => if_neg idle, rfl, rfl,
      fun k => replicate_get .., rfl⟩⟩
  · have grad' : g = a.gradient p y := grad.trans (a.gradient_eq p y).symm
    have tile : tileOf a.tw a.th (p % a.w) (p / a.w) = t := Fin.ext at_.symm
    rw [a.takePixel_tiles, tile, modAt_get_self, grad']
    cases a.gradient p y <;> rfl
  · have tile : tileOf a.tw a.th (p % a.w) (p / a.w) = t := Fin.ext at_.symm
    rw [a.takePixel_tiles, tile]
    exact modAt_get_other _ _ _ _ other.symm
  · have hr := r.isLt
    have hg := g.isLt
    have hb := b.isLt
    unfold lumaOf
    omega

end Sys2Proof.Machine
end

section
/-! PROOFS. Capture writes at their acceptance (R21 to R31). -/

namespace Sys2Proof.Machine

/-! ### The write as the Capture Tracker is handed it (R21, R22) -/

/-- Write q of stream i stands in its order list, not yet taken. -/
def State.entered (s : State) (i : Fin 16) (q : WriteReq) : State := s.modTransit fun t => t.addWrite q (.held i) none

/-- Write q as the Capture Tracker sees it, at an offset of its window. -/
def State.captureWrite (s : State) (q : WriteReq) (o : Nat) : CaptureWrite := ⟨s.transit.nextKey, q.id, o, q.beats⟩

section Handed
variable {s : State} {q : WriteReq} {i : Fin 16} {o : Nat}

theorem exec_captureWrite (wf : q.wf = true) (admitted : s.admits .write) (active : s.transit.mode = .active)
    (decoded : decodeAccess s.transit.windows s.pool.size q.addr.toNat q.burst q.beats.length = .capture i o) :
    exec (.upstreamWriteAccepted q) s = .next ((s.entered i q).handWrite i (s.captureWrite q o)) := by
  rw [exec_write_of_admits wf admitted, State.acceptWrite_active active, decoded]
  rfl

/-- What is then done with the write by its name is done with it alone. -/
theorem State.entered_writes (fresh : ∀ x ∈ s.transit.writes, x.key ≠ s.transit.nextKey) (f : WriteTxn → WriteTxn) :
    (s.entered i q).transit.writes.map (fun x => if x.key = (s.captureWrite q o).key then f x else x)
      = s.transit.writes ++ [f ⟨s.transit.nextKey, q, .held i, false, none⟩] :=
  map_of_unique_key WriteTxn.key f (post := []) (x := ⟨s.transit.nextKey, q, .held i, false, none⟩)
    fun y mem => fresh y (by simpa using mem)

end Handed

section Hand
variable {s : State} {i : Fin 16} {w : CaptureWrite}

theorem State.handWrite_of_free (free : (s.stream i).cfg.enabled = true →
    (s.stream i).cap.heldWrites = [] ∧ ¬(s.stream i).cap.Waits w) : s.handWrite i w = s.takeWrite i w := by
  refine if_neg fun waits => ?_
  rw [Bool.and_eq_true, Bool.or_eq_true, Bool.not_eq_true', List.isEmpty_eq_false_iff, Capture.waits_iff] at waits
  obtain ⟨empty, taken⟩ := free waits.1
  exact waits.2.elim (fun some => some empty) taken

theorem State.handWrite_of_waits (enabled : (s.stream i).cfg.enabled = true)
    (waits : (s.stream i).cap.heldWrites ≠ [] ∨ (s.stream i).cap.Waits w) :
    s.handWrite i w = (s.modTransit (fun t => t.modWrite w.key (fun x => { x with service := .held i }))).modCapture i
      (fun c => { c with heldWrites := c.heldWrites ++ [w] }) := by
  refine if_pos ?_
  rw [Bool.and_eq_true, Bool.or_eq_true, Bool.not_eq_true', List.isEmpty_eq_false_iff, Capture.waits_iff]
  exact ⟨enabled, waits⟩

end Hand

/-- A write for which nothing awaits is taken at its acceptance, under the rule that fits it. -/
theorem exec_captureWrite_taken {s : State} {q : WriteReq} {i : Fin 16} {o : Nat} (wf : q.wf = true)
    (admitted : s.admits .write) (active : s.transit.mode = .active)
    (decoded : decodeAccess s.transit.windows s.pool.size q.addr.toNat q.burst q.beats.length = .capture i o)
    (free : (s.stream i).cfg.enabled = true → (s.stream i).cap.heldWrites = []
      ∧ ¬(s.stream i).cap.Waits (s.captureWrite q o)) :
    ∃ t, exec (.upstreamWriteAccepted q) s = .next t ∧ (s.entered i q).WriteTaken t i (s.captureWrite q o) :=
  ⟨_, (exec_captureWrite wf admitted active decoded).trans (congrArg Host.Outcome.next (State.handWrite_of_free free)),
    State.takeWrite_spec _ i _⟩

theorem Capture.not_waits_of_idle {c : Capture} (idle : c.fill = none) (w : CaptureWrite) : ¬c.Waits w :=
  fun ⟨_, filling, _⟩ => by cases idle.symm.trans filling

/-- Within a frame a write waits only behind its end mark, and a start write only for the writes that await. -/
theorem Capture.not_waits_of_filling {c : Capture} {f : Filling} {w : CaptureWrite} (filling : c.fill = some f)
    (free : f.endMark = false ∧ 0 < w.offset ∨ c.awaiting = 0) : ¬c.Waits w := by
  rintro ⟨g, filling', awaits, marked⟩
  cases filling.symm.trans filling'
  obtain ⟨clear, low⟩ | answered := free
  · exact marked.elim (fun set => by cases clear.symm.trans set) (fun start => absurd start low.ne')
  · exact absurd answered awaits.ne'

/-- Settles O11: the write is taken at once, and the rule that fits it absorbs it. -/
theorem unfitWritesAreAbsorbed : Obligations.UnfitWritesAreAbsorbed := by
  intro s q i o wf admitted active decoded fresh unfit
  have absorbed : (s.entered i q).orphaned i (s.captureWrite q o).key = { s with
      transit := { s.transit with
        writes := s.transit.writes ++ [⟨s.transit.nextKey, q, .absorbed, false, some .okay⟩]
        nextKey := s.transit.nextKey + 1 }
      streams := modAt s.streams i (fun st => { st with
        cap := { st.cap with orphans := min 65535 (st.cap.orphans + 1) } }) } := by
    rw [State.orphaned, State.entered_writes fresh]
    rfl
  obtain ⟨t, accepted, ofDisabled, ofEnabled⟩ := exec_captureWrite_taken wf admitted active decoded fun on => by
    obtain off | ⟨empty, low, idle⟩ | ⟨empty, f, filling, low, tail, free⟩ := unfit
    · cases off.symm.trans on
    · exact ⟨empty, Capture.not_waits_of_idle idle _⟩
    · exact ⟨empty, Capture.not_waits_of_filling filling (free.imp_left fun clear => ⟨clear, low⟩)⟩
  rw [accepted, ← absorbed]
  refine congrArg Host.Outcome.next ?_
  cases enabled : (s.stream i).cfg.enabled with
  | false => exact ofDisabled enabled
  | true =>
    obtain ⟨ofIdle, -, ofFilling⟩ := ofEnabled enabled
    obtain off | ⟨empty, low, idle⟩ | ⟨empty, f, filling, low, tail, free⟩ := unfit
    · cases enabled.symm.trans off
    · exact ofIdle idle low
    · exact (ofFilling f filling).2.1 low tail

/-- Settles O9: a write in FILLING at an offset inside the frame is steered; the strobes, the partial mark and the signature
byte by byte are the lemmas about the beats of a write. -/
theorem captureWritesAreSteered : Obligations.CaptureWritesAreSteered := by
  refine ⟨fun s q i o f wf admitted active decoded enabled filling empty free low inside fresh => ?_,
    fun o size beats ho hs => ⟨steeredBeats_length .., fun k x y hx hy => ⟨?_, fun n low => ?_⟩, hasClearStrobe_iff ho hs,
      fun v => crcWrite_eq ho hs v beats⟩⟩
  · obtain ⟨t, accepted, -, ofEnabled⟩ := exec_captureWrite_taken wf admitted active decoded fun _ =>
      ⟨empty, Capture.not_waits_of_filling filling (free.imp_left fun clear => ⟨clear, low⟩)⟩
    obtain ⟨-, -, ofFilling⟩ := ofEnabled enabled
    obtain ⟨-, -, ofInside⟩ := ofFilling f filling
    obtain rfl : t = _ := ofInside low inside
    refine ⟨_, accepted, ?_, ?_, fun j other => modAt_get_other _ _ _ _ other.symm, rfl, rfl, rfl, rfl, rfl, rfl, rfl, rfl, rfl,
      rfl⟩
    · rw [State.steered, State.entered_writes fresh]
      rfl
    · exact modAt_get_self _ _ _
  · exact (steeredBeats_strobes ho hs hx hy (n := 0) (by decide)).1
  · exact (steeredBeats_strobes ho hs hx hy low).2

/-! ### Start writes (R22, R24, R25, R27) -/

/-- The two bytes of a header field, low byte first (R21). -/
theorem headerField_toNat (x : WriteBeat) (rest : List WriteBeat) {n : Nat} (low : n < 15) :
    (headerField (x :: rest) n).toNat
      = (writtenByte (x :: rest) n).toNat + 256 * (writtenByte (x :: rest) (n + 1)).toNat := by
  have byte (m : Nat) (hm : m < 16) : writtenByte (x :: rest) m = strobedByte x m := by
    have := writtenByte_eq (beats := x :: rest) (k := 0) rfl hm
    rwa [Nat.mul_zero, Nat.zero_add] at this
  have low' := (strobedByte x n).isLt
  have high := (strobedByte x (n + 1)).isLt
  rw [byte n (by omega), byte (n + 1) (by omega), headerField, BitVec.toNat_ofNat]
  simp only [leValue]
  omega

theorem SlotPool.owns_iff (p : SlotPool) (i : Fin 16) (n : Nat) :
    p.owns i n = true ↔ ∃ x, p.slots[n]? = some x ∧ x.owner = some i := by
  unfold SlotPool.owns
  cases p.slots[n]? <;> simp

theorem SlotPool.handBack_owns (p : SlotPool) (n m : Nat) (i : Fin 16) : (p.handBack n).owns i m = p.owns i m := by
  unfold SlotPool.owns SlotPool.handBack
  rw [SlotPool.update_slots]
  by_cases same : n = m
  · subst same
    cases p.slots[n]? <;> simp [Slot.clearContent]
  · simp [same]

theorem State.torn_stream (s : State) (i : Fin 16) (n : Nat) : (s.torn i n).stream i = { s.stream i with
    acc := { (s.stream i).acc.clearSums with state := .idle }
    cap := { (s.stream i).cap with fill := none, lost := min 65535 ((s.stream i).cap.lost + 1) } } := modAt_get_self ..

/-- A FILLING slot handed back is FREE with no content (R51). -/
theorem SlotPool.handBack_slot {p : SlotPool} {n : Nat} {x : Slot} (found : p.slots[n]? = some x) :
    (p.handBack n).slots[n]? = some { x with
      life := .free, valid := false, sigValid := false, partFrame := false
      sequence := 0, frameSize := 0, stamp := 0, signature := 0 } := SlotPool.update_slot found

/-- An unpinned and unheld one joins the tail of the free list (R47, R51). -/
theorem SlotPool.handBack_free {p : SlotPool} {n : Nat} {x : Slot} (found : p.slots[n]? = some x) (filling : x.life = .filling)
    (pins : x.pins = 0) (hold : x.hold = none) : (p.handBack n).free = p.free ++ [n] :=
  (SlotPool.update_free_joins found (by simp [Slot.available, filling])).trans
    (if_pos (by simp [Slot.available, Slot.clearContent, pins, hold]))

/-- Settles O10: a start write in IDLE begins a frame by `frameStart_spec`; in FILLING it does so in the state in which the
frame in progress is torn; it waits as `handWrite` says. -/
theorem startWriteTakesTheOldestFreeSlot : Obligations.StartWriteTakesTheOldestFreeSlot := by
  refine ⟨fun s q i wf admitted active decoded enabled idle empty fresh exact_ => ?_,
    fun s q i f x n pre post wf admitted active decoded enabled filling answered empty fresh exact_ found life pins hold free before
      owned => ?_,
    fun s q i o wf admitted active decoded enabled fresh waits => ?_, fun x rest n low => headerField_toNat x rest low,
    fun p i n => p.owns_iff i n⟩
  · obtain ⟨t, accepted, -, ofEnabled⟩ := exec_captureWrite_taken wf admitted active decoded fun _ =>
      ⟨empty, Capture.not_waits_of_idle idle _⟩
    obtain ⟨-, ofStart, -⟩ := ofEnabled enabled
    obtain ⟨begins, starves⟩ := ofStart idle rfl
    refine ⟨fun n pre post free before owned => ?_, fun nobody => ?_⟩
    · obtain ⟨p, gives, begun⟩ := begins n pre post free before owned
      refine ⟨p, gives exact_, accepted.trans (congrArg Host.Outcome.next (begun.trans ?_))⟩
      rw [State.entered_writes fresh]
      rfl
    · refine accepted.trans (congrArg Host.Outcome.next ((starves nobody).trans ?_))
      rw [State.entered_writes fresh]
      rfl
  · obtain ⟨t, accepted, -, ofEnabled⟩ := exec_captureWrite_taken wf admitted active decoded fun _ =>
      ⟨empty, Capture.not_waits_of_filling filling (.inr answered)⟩
    obtain ⟨-, -, ofFilling⟩ := ofEnabled enabled
    obtain ⟨begins, -⟩ := (ofFilling f filling).1 rfl
    have owns (m : Nat) : (s.pool.handBack f.slot).owns i m = s.pool.owns i m := s.pool.handBack_owns f.slot m i
    obtain ⟨p, gives, begun⟩ := begins n pre post ((SlotPool.handBack_free found life pins hold).trans free)
      (fun m mem => (owns m).trans (before m mem)) ((owns n).trans owned)
    have given := gives (SlotPool.handBack_exact exact_ f.slot)
    refine ⟨p, given, fun other => ?_, accepted.trans (congrArg Host.Outcome.next (begun.trans ?_))⟩
    · obtain ⟨-, -, -, kept, -⟩ := given
      exact (kept f.slot other.symm).trans (SlotPool.handBack_slot found)
    · obtain ⟨-, base, -, size, -⟩ := s.pool.update_frame f.slot fun x => { x.clearContent with life := .free }
      have base : ((s.entered i q).torn i f.slot).pool.base = s.pool.base := base
      have size : ((s.entered i q).torn i f.slot).pool.size = s.pool.size := size
      have cfg : (((s.entered i q).torn i f.slot).stream i).cfg = (s.stream i).cfg := by
        rw [State.torn_stream]
        rfl
      have writes : ((s.entered i q).torn i f.slot).transit.writes.map (fun x =>
          if x.key = (s.captureWrite q 0).key then { x with service := .steered i } else x)
          = s.transit.writes ++ [⟨s.transit.nextKey, q, .steered i, false, none⟩] := State.entered_writes fresh _
      rw [State.steeredTo, base, size, cfg, writes, State.torn]
      congr 1
      dsimp only [State.entered, State.modTransit]
      rw [modAt_modAt]
      refine modAt_congr _ _ _ _ ?_
      have answered' : s.streams[i].cap.awaiting = 0 := answered
      simp only [answered']
      rfl
  · have waits' : (s.stream i).cap.heldWrites ≠ [] ∨ (s.stream i).cap.Waits (s.captureWrite q o) := waits
    rw [exec_captureWrite wf admitted active decoded, State.handWrite_of_waits (by exact enabled) (by exact waits')]
    refine congrArg Host.Outcome.next ?_
    simp only [State.modTransit, Transit.modWrite, State.modCapture]
    rw [State.entered_writes fresh]
    rfl

end Sys2Proof.Machine
end

section
/-! PROOFS. Completion of a frame (R33 to R39, R50, R70 to R72, R154): each step of `acceptFrame` as one change of the
state, and from them the accepted frame and the lost one. -/

namespace Sys2Proof.Machine

/-! ### The sequence and the freshness of an accepted frame (R35, R39) -/

/-- The missed count after an accepted frame with a sequence (R35). -/
def Capture.missedAfter (c : Capture) (q : Seq) : Nat :=
  match c.lastSeq with
  | none => c.missed
  | some last => if q ≠ last + 1 ∧ (q - last - 1).toNat < 32768 then min 65535 (c.missed + (q - last - 1).toNat) else c.missed

/-- The notices of the sequence check (R35). -/
def State.sequenceNotices (s : State) (i : Fin 16) (q : Seq) : NoticeQueue :=
  match (s.stream i).cap.lastSeq with
  | none => s.notices
  | some last =>
    if q = last + 1 then s.notices
    else if (q - last - 1).toNat < 32768 then s.notices.take s.time .sequenceGap i.val (q - last - 1).toNat
    else s.notices.take s.time .sequenceRegress i.val q.toNat

theorem State.acceptNotices_eq (s : State) (i : Fin 16) (q : Seq) : s.acceptNotices i q
    = if (s.stream i).cap.freshness = .live then s.sequenceNotices i q
      else (s.sequenceNotices i q).take s.time .streamLive i.val q.toNat := rfl

theorem seq_step_zero_iff (q last : Seq) : (q - last - 1).toNat = 0 ↔ q = last + 1 := by
  bv_omega

section Missed
variable {c : Capture} {q z : Seq}

theorem Capture.missedAfter_of_none (first : c.lastSeq = none) : c.missedAfter q = c.missed := by
  simp [Capture.missedAfter, first]

theorem Capture.missedAfter_of_next (last : c.lastSeq = some z) (next : q = z + 1) : c.missedAfter q = c.missed := by
  simp [Capture.missedAfter, last, next]

theorem Capture.missedAfter_of_gap (last : c.lastSeq = some z) (apart : q ≠ z + 1) (gap : (q - z - 1).toNat < 32768) :
    c.missedAfter q = min 65535 (c.missed + (q - z - 1).toNat) := by
  simp only [Capture.missedAfter, last]
  exact if_pos ⟨apart, gap⟩

theorem Capture.missedAfter_of_regress (last : c.lastSeq = some z) (back : ¬(q - z - 1).toNat < 32768) :
    c.missedAfter q = c.missed := by
  simp only [Capture.missedAfter, last]
  exact if_neg fun gap => back gap.2

end Missed

section Records
variable {s : State} {i : Fin 16} {f g : Stream → Stream}

theorem State.modStream_same (h : f (s.stream i) = s.stream i) : s.modStream i f = s :=
  congrArg (fun v => { s with streams := v }) (modAt_same _ _ _ h)

theorem State.modStream_congr (h : f (s.stream i) = g (s.stream i)) : s.modStream i f = s.modStream i g :=
  congrArg (fun v => { s with streams := v }) (modAt_congr _ _ _ _ h)

theorem State.modStream_modStream : (s.modStream i f).modStream i g = s.modStream i fun st => g (f st) :=
  congrArg (fun v => { s with streams := v }) (modAt_modAt ..)

end Records

/-- The sequence check sends its notice, counts the missed frames and stores the sequence (R35). -/
theorem State.checkSequence_eq (s : State) (i : Fin 16) (q : Seq) : s.checkSequence i q = { s with
    notices := s.sequenceNotices i q
    streams := modAt s.streams i fun st => { st with
      cap := { st.cap with missed := st.cap.missedAfter q, lastSeq := some q } } } := by
  have counted : s.checkSequence i q = State.modCapture { s.modStream i (fun st => { st with
      cap := { st.cap with missed := st.cap.missedAfter q } }) with notices := s.sequenceNotices i q } i
      fun c => { c with lastSeq := some q } := by
    unfold State.checkSequence State.sequenceNotices
    refine congrArg (fun u : State => u.modCapture i fun c => { c with lastSeq := some q }) ?_
    cases last : (s.stream i).cap.lastSeq with
    | none => rw [State.modStream_same (by rw [Capture.missedAfter_of_none last])]
    | some z =>
      simp only [seq_step_zero_iff]
      split
      · rename_i next
        rw [State.modStream_same (by rw [Capture.missedAfter_of_next last next])]
      · rename_i apart
        split
        · rename_i gap
          rw [State.modStream_congr (g := fun st => { st with
            cap := { st.cap with missed := satAdd top16 st.cap.missed (q - z - 1).toNat } })
            (by rw [Capture.missedAfter_of_gap last apart gap]; rfl)]
          rfl
        · rename_i back
          rw [State.modStream_same (by rw [Capture.missedAfter_of_regress last back])]
          rfl
  rw [counted]
  dsimp only [State.modCapture, State.modStream]
  rw [modAt_modAt]

/-- The freshness of an accepted frame (R39). -/
theorem State.refresh_eq (s : State) (i : Fin 16) (q : Seq) : s.refresh i q = { s with
    notices := if (s.stream i).cap.freshness = .live then s.notices else s.notices.take s.time .streamLive i.val q.toNat
    streams := modAt s.streams i fun st => { st with
      cap := { st.cap with freshness := .live, timer := some (s.time + BitVec.ofNat 32 st.cfg.ageLimit) } } } := by
  have live : s.modCapture i (fun c => { c with freshness := .live, timer := some (laterBy s.time (s.stream i).cfg.ageLimit) })
      = s.modStream i fun st => { st with
        cap := { st.cap with freshness := .live, timer := some (s.time + BitVec.ofNat 32 st.cfg.ageLimit) } } :=
    State.modStream_congr rfl
  unfold State.refresh
  dsimp only
  rw [live]
  split <;> rfl

/-- Both together: the notices of an accepted frame, and what the running part takes of it. -/
theorem State.judged_eq (s : State) (i : Fin 16) (q : Seq) : (s.checkSequence i q).refresh i q = { s with
    notices := s.acceptNotices i q
    streams := modAt s.streams i fun st => { st with cap := { st.cap with
      missed := st.cap.missedAfter q
      lastSeq := some q
      freshness := .live
      timer := some (s.time + BitVec.ofNat 32 st.cfg.ageLimit) } } } := by
  have stream : (s.checkSequence i q).stream i = { s.stream i with
      cap := { (s.stream i).cap with missed := (s.stream i).cap.missedAfter q, lastSeq := some q } } := by
    rw [State.checkSequence_eq]
    exact modAt_get_self ..
  rw [State.refresh_eq, stream, State.checkSequence_eq, State.acceptNotices_eq]
  dsimp only
  rw [modAt_modAt]

/-! ### The statistics of an accepted frame (R70 to R72) -/

/-- The queue with a record at its tail, begun by an idle engine when it is the head (R71, R79). -/
def Evaluator.queued (e : Evaluator) (r : FrameRecord) : Evaluator :=
  match e.current, e.queue with
  | some _, l => { e with queue := l ++ [r] }
  | none, [] => { e with current := some ⟨r, false⟩ }
  | none, a :: l => { e with current := some ⟨a, false⟩, queue := l ++ [r] }

theorem Evaluator.begin_append (e : Evaluator) (r : FrameRecord) :
    Evaluator.begin { e with queue := e.queue ++ [r] } = e.queued r := by
  obtain ⟨queue, current, soiling⟩ := e
  cases current <;> cases queue <;> rfl

theorem State.offerRecord_of_room {s : State} (room : s.evals.queue.length < 4) (r : FrameRecord) :
    s.offerRecord r = { s with evals := s.evals.queued r } := by
  rw [← s.evals.begin_append]
  exact if_pos room

theorem State.offerRecord_of_full {s : State} (full : 4 ≤ s.evals.queue.length) (r : FrameRecord) :
    s.offerRecord r = (s.modAcc r.stream (fun a => { a with skipped := min 65535 (a.skipped + 1) })).notify
      .evalSkipped r.stream.val r.sequence.toNat := if_neg full.not_gt

theorem State.offerStatistics_of_unmeasured {s : State} {i : Fin 16} {q : Seq} (idle : (s.stream i).acc.state ≠ .collecting) :
    s.offerStatistics i q = s.modAcc i fun a => { a with state := .idle } := if_neg idle

theorem State.offerStatistics_of_room {s : State} {i : Fin 16} {q : Seq} (collects : (s.stream i).acc.state = .collecting)
    (room : s.evals.queue.length < 4) : s.offerStatistics i q = { s.modAcc i (fun a => a.offered q) with
      evals := s.evals.queued ((s.stream i).acc.frameRecord i q) } :=
  (if_pos collects).trans (State.offerRecord_of_room (by exact room) _)

theorem State.offerStatistics_of_full {s : State} {i : Fin 16} {q : Seq} (collects : (s.stream i).acc.state = .collecting)
    (full : 4 ≤ s.evals.queue.length) : s.offerStatistics i q
      = (s.modAcc i (fun a => { a.offered q with skipped := min 65535 (a.skipped + 1) })).notify .evalSkipped i.val q.toNat := by
  refine ((if_pos collects).trans (State.offerRecord_of_full (by exact full) _)).trans ?_
  exact congrArg (fun u : State => u.notify .evalSkipped i.val q.toNat) State.modStream_modStream

/-- The accumulator set of an accepted frame, with the evaluation queue full or not (R70, R72). -/
def Accumulators.accepted (a : Accumulators) (q : Seq) (full : Prop) [Decidable full] : Accumulators :=
  if a.state = .collecting then { a with
    state := .idle
    lastOffered := some q
    lastComplete := a.total TileSums.pix
    lastIncomplete := a.incomplete
    skipped := if full then min 65535 (a.skipped + 1) else a.skipped }
  else { a with state := .idle }

/-- A measured frame gives the queue its record, or is skipped at a full queue. -/
theorem State.offerStatistics_eq (s : State) (i : Fin 16) (q : Seq) : s.offerStatistics i q = { s with
    notices := if (s.stream i).acc.state = .collecting ∧ 4 ≤ s.evals.queue.length
      then s.notices.take s.time .evalSkipped i.val q.toNat else s.notices
    evals := if (s.stream i).acc.state ≠ .collecting ∨ 4 ≤ s.evals.queue.length then s.evals
      else s.evals.queued ((s.stream i).acc.frameRecord i q)
    streams := modAt s.streams i fun st => { st with acc := st.acc.accepted q (4 ≤ s.evals.queue.length) } } := by
  have counted (f : Accumulators → Accumulators) (same : (s.stream i).acc.accepted q (4 ≤ s.evals.queue.length) = f (s.stream i).acc) :
      s.modAcc i f = s.modStream i fun st => { st with acc := st.acc.accepted q (4 ≤ s.evals.queue.length) } :=
    State.modStream_congr (congrArg (fun a => { s.stream i with acc := a }) same.symm)
  by_cases collects : (s.stream i).acc.state = .collecting
  · by_cases full : 4 ≤ s.evals.queue.length
    · rw [State.offerStatistics_of_full collects full, if_pos (.inr full), if_pos ⟨collects, full⟩,
        counted _ ((if_pos collects).trans (by rw [if_pos full]; rfl))]
      rfl
    · rw [State.offerStatistics_of_room collects (Nat.lt_of_not_le full),
        if_neg fun h => h.elim (fun other => other collects) full, if_neg fun h => full h.2,
        counted _ ((if_pos collects).trans (by rw [if_neg full]; rfl))]
      rfl
  · rw [State.offerStatistics_of_unmeasured collects, if_pos (.inl collects), if_neg fun h => collects h.1,
      counted (fun a => { a with state := .idle }) (if_neg collects)]
    rfl

/-! ### Post frames (R154) -/

theorem Group.waits_iff (i : Fin 16) (g : Group) : g.waits i = true ↔ g.stream = i ∧ 0 < g.post := decide_eq_true_iff

theorem modFirstGroup_append {p : Group → Bool} {f : Group → Group} {pre post : List Group} {g : Group}
    (before : ∀ x ∈ pre, p x = false) (own : p g = true) :
    modFirstGroup p f (pre ++ g :: post) = pre ++ f g :: post := by
  induction pre with
  | nil => simp [modFirstGroup, own]
  | cons x pre ih =>
    rw [List.cons_append, modFirstGroup, before x (by simp), ih fun y mem => before y (by simp [mem])]
    rfl

theorem State.foldl_notify (kind : Kind) (subject value : Group → Nat) (l : List Group) (s : State) :
    l.foldl (fun s g => s.notify kind (subject g) (value g)) s
      = { s with notices := l.foldl (fun q g => q.take s.time kind (subject g) (value g)) s.notices } := by
  induction l generalizing s with
  | nil => rfl
  | cons g l ih => rw [List.foldl_cons, ih]; rfl

/-- The pool with a slot held for a group, where one takes it. -/
def SlotPool.heldAs (p : SlotPool) (held : Option Nat) (n : Nat) : SlotPool :=
  match held with
  | none => p
  | some g => p.holdFor g n

/-- The group that takes the slot, or the groups that stop waiting. -/
theorem State.postFrame_eq {s : State} {i : Fin 16} {n : Nat} {groups cut : List Group} {held : Option Nat}
    (told : s.PostFrame i n groups held cut) : s.postFrame i n = { s with
      pool := s.pool.heldAs held n
      holds := { s.holds with groups := groups }
      notices := cut.foldl (fun q g => q.take s.time .holdClamped g.id g.post) s.notices } := by
  obtain ⟨nobody, rfl, rfl, rfl⟩ | ⟨pre, g, post, split, before, own, waits, outcome⟩ := told
  · have found : s.holds.groups.find? (Group.waits i) = none :=
      List.find?_eq_none.2 fun g mem => by rw [Group.waits_iff]; exact nobody g mem
    rw [State.postFrame, found]
    rfl
  · have before' : ∀ x ∈ pre, x.waits i = false := fun x mem => decide_eq_false (before x mem)
    have own' : g.waits i = true := decide_eq_true ⟨own, waits⟩
    have found : s.holds.groups.find? (Group.waits i) = some g := by
      rw [split, List.find?_append, List.find?_eq_none.2 fun x mem => by rw [before' x mem]; decide, List.find?_cons_of_pos own']
      rfl
    rw [State.postFrame, found]
    dsimp only
    by_cases room : s.holds.total < 8 ∧ 2 < s.pool.unheldCount (s.stream i).cfg.slotList
    · rw [if_pos room] at outcome
      obtain ⟨rfl, rfl, rfl⟩ := outcome
      refine (if_pos room).trans ?_
      have taken : modFirstGroup (Group.waits i) (fun g => g.takePost n) s.holds.groups
          = pre ++ { g with slots := g.slots ++ [n], post := g.post - 1 } :: post := by
        rw [split, modFirstGroup_append before' own']
        rfl
      rw [← taken]
      rfl
    · rw [if_neg room] at outcome
      obtain ⟨rfl, rfl, rfl⟩ := outcome
      refine (if_neg room).trans ?_
      have stopped : s.holds.groups.map (fun g => if g.waits i = true then { g with post := 0 } else g)
          = s.holds.groups.map (fun x => if x.stream = i ∧ 0 < x.post then { x with post := 0 } else x) :=
        List.map_congr_left fun x _ => if_congr (x.waits_iff i) rfl rfl
      rw [← stopped, State.foldl_notify]
      rfl

/-- What the groups make of a new CURRENT slot is determined by the table and the unheld count. -/
theorem State.PostFrame.congr {s u : State} {i : Fin 16} {n : Nat} {groups cut : List Group} {held : Option Nat}
    (told : s.PostFrame i n groups held cut) (holds : u.holds = s.holds)
    (count : u.pool.unheldCount (u.stream i).cfg.slotList = s.pool.unheldCount (s.stream i).cfg.slotList) :
    u.PostFrame i n groups held cut := by
  unfold State.PostFrame at told ⊢
  rw [holds, count]
  exact told

/-- Each state and each new CURRENT slot have such an outcome. -/
theorem State.exists_postFrame (s : State) (i : Fin 16) (n : Nat) : ∃ groups held cut, s.PostFrame i n groups held cut := by
  cases found : s.holds.groups.find? (Group.waits i) with
  | none => exact ⟨_, _, _, .inl ⟨fun g mem waits => List.find?_eq_none.1 found g mem ((g.waits_iff i).2 waits), rfl, rfl, rfl⟩⟩
  | some g =>
    obtain ⟨own, pre, post, split, before⟩ := List.find?_eq_some_iff_append.1 found
    obtain ⟨own, waits⟩ := (g.waits_iff i).1 own
    have before' : ∀ x ∈ pre, ¬(x.stream = i ∧ 0 < x.post) := fun x mem waits => by
      have := before x mem
      rw [(x.waits_iff i).2 waits] at this
      cases this
    by_cases room : s.holds.total < 8 ∧ 2 < s.pool.unheldCount (s.stream i).cfg.slotList
    · exact ⟨_, _, _, .inr ⟨pre, g, post, split, before', own, waits, (if_pos room).mpr ⟨rfl, rfl, rfl⟩⟩⟩
    · exact ⟨_, _, _, .inr ⟨pre, g, post, split, before', own, waits, (if_neg room).mpr ⟨rfl, rfl, rfl⟩⟩⟩

end Sys2Proof.Machine
end

section
/-! PROOFS. The response of a steered write (R20, R23, R32 to R34): the pool of an accepted frame, the frame settled, and the
held writes taken in turn. -/

namespace Sys2Proof.Machine

/-! ### The pool when a frame is accepted (R50) -/

section Accept
variable {p : SlotPool} {i : Fin 16} {f : Filling} {now : Time} {x : Slot}

theorem SlotPool.currentOf_eq_some {c : Nat} (current : p.currentOf i = some c) :
    ∃ y, p.slots[c]? = some y ∧ y.life = .current ∧ y.owner = some i := by
  obtain ⟨below, holds, -⟩ := List.findIdx?_eq_some_iff_getElem.1 current
  exact ⟨p.slots[c], List.getElem?_eq_getElem below, of_decide_eq_true holds⟩

/-- The slot of a frame in progress is not its stream's CURRENT slot. -/
theorem SlotPool.filling_ne_current {c n : Nat} (found : p.slots[n]? = some x) (filling : x.life = .filling)
    (current : p.currentOf i = some c) : n ≠ c := by
  rintro rfl
  obtain ⟨y, same, life, -⟩ := SlotPool.currentOf_eq_some current
  obtain rfl := Option.some.inj (found.symm.trans same)
  cases filling.symm.trans life

/-- The pool with the frame's slot accepted at the head of the content list, its previous CURRENT slot not yet demoted. -/
def SlotPool.accepted (p : SlotPool) (i : Fin 16) (f : Filling) (now : Time) : SlotPool :=
  { p.update f.slot (fun x => x.accept f now) with content := modAt p.content i (fun l => f.slot :: l.erase f.slot) }

theorem SlotPool.acceptFrame_of_none (first : p.currentOf i = none) : p.acceptFrame i f now = p.accepted i f now := by
  simp only [SlotPool.acceptFrame, first, SlotPool.update_content]
  rfl

theorem SlotPool.acceptFrame_of_some {c : Nat} (current : p.currentOf i = some c) :
    p.acceptFrame i f now = (p.accepted i f now).update c Slot.demote := by
  simp only [SlotPool.acceptFrame, current, SlotPool.update_content]
  rfl

theorem SlotPool.accepted_slots (m : Nat) :
    (p.accepted i f now).slots[m]? = if f.slot = m then (p.slots[m]?).map (fun x => x.accept f now) else p.slots[m]? :=
  p.update_slots ..

theorem SlotPool.acceptFrame_slot (found : p.slots[f.slot]? = some x) (filling : x.life = .filling) :
    (p.acceptFrame i f now).slots[f.slot]? = some (x.accept f now) := by
  have taken : (p.accepted i f now).slots[f.slot]? = some (x.accept f now) := by
    rw [SlotPool.accepted_slots, if_pos rfl, found]
    rfl
  cases current : p.currentOf i with
  | none => rw [SlotPool.acceptFrame_of_none current, taken]
  | some c =>
    rw [SlotPool.acceptFrame_of_some current, SlotPool.update_slots,
      if_neg (SlotPool.filling_ne_current found filling current).symm, taken]

theorem SlotPool.acceptFrame_current {c : Nat} {y : Slot} (found : p.slots[f.slot]? = some x) (filling : x.life = .filling)
    (current : p.currentOf i = some c) (old : p.slots[c]? = some y) :
    (p.acceptFrame i f now).slots[c]? = some y.demote := by
  rw [SlotPool.acceptFrame_of_some current, SlotPool.update_slots, if_pos rfl, SlotPool.accepted_slots,
    if_neg (SlotPool.filling_ne_current found filling current), old]
  rfl

theorem SlotPool.acceptFrame_other {m : Nat} (slot : m ≠ f.slot) (other : p.currentOf i ≠ some m) :
    (p.acceptFrame i f now).slots[m]? = p.slots[m]? := by
  have kept : (p.accepted i f now).slots[m]? = p.slots[m]? := by
    rw [SlotPool.accepted_slots, if_neg slot.symm]
  cases current : p.currentOf i with
  | none => rw [SlotPool.acceptFrame_of_none current, kept]
  | some c =>
    rw [SlotPool.acceptFrame_of_some current, SlotPool.update_slots, if_neg fun same : c = m => other (same ▸ current), kept]

theorem SlotPool.acceptFrame_content : (p.acceptFrame i f now).content = modAt p.content i (fun l => f.slot :: l.erase f.slot) := by
  cases current : p.currentOf i with
  | none => rw [SlotPool.acceptFrame_of_none current]; rfl
  | some c => rw [SlotPool.acceptFrame_of_some current, SlotPool.update_content]; rfl

theorem SlotPool.unheldCount_congr {p q : SlotPool} (same : ∀ n : Nat, (q.slots[n]?).map Slot.hold = (p.slots[n]?).map Slot.hold)
    (l : List Nat) : q.unheldCount l = p.unheldCount l := by
  refine congrArg List.length (List.filter_congr fun n _ => ?_)
  have := same n
  cases hq : q.slots[n]? <;> cases hp : p.slots[n]? <;> simp_all

theorem SlotPool.update_hold {n : Nat} {g : Slot → Slot} (kept : ∀ x, (g x).hold = x.hold) (m : Nat) :
    ((p.update n g).slots[m]?).map Slot.hold = (p.slots[m]?).map Slot.hold := by
  rw [p.update_slots]
  split
  · rw [Option.map_map]
    exact congrArg (fun h => Option.map h p.slots[m]?) (funext kept)
  · rfl

theorem SlotPool.acceptFrame_unheldCount (l : List Nat) : (p.acceptFrame i f now).unheldCount l = p.unheldCount l := by
  have taken (m : Nat) : ((p.accepted i f now).slots[m]?).map Slot.hold = (p.slots[m]?).map Slot.hold :=
    SlotPool.update_hold (p := p) (g := fun x => x.accept f now) (fun _ => rfl) m
  refine SlotPool.unheldCount_congr (fun m => ?_) l
  cases current : p.currentOf i with
  | none => rw [SlotPool.acceptFrame_of_none current, taken]
  | some c => rw [SlotPool.acceptFrame_of_some current, SlotPool.update_hold (g := Slot.demote) (fun _ => rfl), taken]

theorem SlotPool.heldAs_slot {held : Option Nat} {n : Nat} (found : p.slots[n]? = some x) :
    (p.heldAs held n).slots[n]? = some { x with hold := held.or x.hold } := by
  cases held with
  | none => exact found
  | some g => exact SlotPool.update_slot found

theorem SlotPool.heldAs_other {held : Option Nat} {m n : Nat} (other : m ≠ n) :
    (p.heldAs held n).slots[m]? = p.slots[m]? := by
  cases held with
  | none => rfl
  | some g => exact (p.update_slots ..).trans (if_neg other.symm)

theorem SlotPool.heldAs_content {held : Option Nat} {n : Nat} : (p.heldAs held n).content = p.content := by
  cases held with
  | none => rfl
  | some g => exact p.update_content ..

end Accept

/-! ### The accepted frame as one change of the state (R36) -/

/-- The notices of an accepted frame, up to the statistics. -/
def State.frameNotices (s : State) (i : Fin 16) (q : Seq) : NoticeQueue :=
  if (s.stream i).acc.state = .collecting ∧ 4 ≤ s.evals.queue.length
    then (s.acceptNotices i q).take s.time .evalSkipped i.val q.toNat else s.acceptNotices i q

/-- The first four steps of R36: the slot accepted, the sequence checked, the stream LIVE, the statistics offered. -/
def State.frameTaken (s : State) (i : Fin 16) (f : Filling) : State := { s with
  pool := s.pool.acceptFrame i f s.time
  notices := s.frameNotices i f.sequence
  evals := if (s.stream i).acc.state ≠ .collecting ∨ 4 ≤ s.evals.queue.length then s.evals
    else s.evals.queued ((s.stream i).acc.frameRecord i f.sequence)
  streams := modAt s.streams i fun st => { st with
    acc := st.acc.accepted f.sequence (4 ≤ s.evals.queue.length)
    cap := { st.cap with
      missed := st.cap.missedAfter f.sequence
      lastSeq := some f.sequence
      freshness := .live
      timer := some (s.time + BitVec.ofNat 32 st.cfg.ageLimit) } } }

theorem State.frameTaken_eq (s : State) (i : Fin 16) (f : Filling) :
    (((s.modPool fun p => p.acceptFrame i f s.time).checkSequence i f.sequence).refresh i f.sequence).offerStatistics i f.sequence
      = s.frameTaken i f := by
  have stream : (((s.modPool fun p => p.acceptFrame i f s.time).checkSequence i f.sequence).refresh i f.sequence).stream i
      = { s.stream i with cap := { (s.stream i).cap with
        missed := (s.stream i).cap.missedAfter f.sequence
        lastSeq := some f.sequence
        freshness := .live
        timer := some (s.time + BitVec.ofNat 32 (s.stream i).cfg.ageLimit) } } := by
    rw [State.judged_eq]
    exact modAt_get_self ..
  rw [State.offerStatistics_eq, stream, State.judged_eq]
  dsimp only
  rw [modAt_modAt]
  rfl

/-- The five steps together, with what the groups make of the new CURRENT slot. -/
theorem State.acceptFrame_eq {s : State} {i : Fin 16} {f : Filling} {groups cut : List Group} {held : Option Nat}
    (told : s.PostFrame i f.slot groups held cut) : s.acceptFrame i f = { s with
      pool := (s.pool.acceptFrame i f s.time).heldAs held f.slot
      holds := { s.holds with groups := groups }
      notices := cut.foldl (fun q g => q.take s.time .holdClamped g.id g.post) (s.frameNotices i f.sequence)
      evals := if (s.stream i).acc.state ≠ .collecting ∨ 4 ≤ s.evals.queue.length then s.evals
        else s.evals.queued ((s.stream i).acc.frameRecord i f.sequence)
      streams := modAt s.streams i fun st => { st with
        acc := st.acc.accepted f.sequence (4 ≤ s.evals.queue.length)
        cap := { st.cap with
          fill := none
          missed := st.cap.missedAfter f.sequence
          lastSeq := some f.sequence
          freshness := .live
          timer := some (s.time + BitVec.ofNat 32 st.cfg.ageLimit) } } } := by
  have cfg : ((s.frameTaken i f).stream i).cfg = (s.stream i).cfg := by
    dsimp only [State.frameTaken, State.stream]
    rw [modAt_get_self]
  have told' : (s.frameTaken i f).PostFrame i f.slot groups held cut :=
    State.PostFrame.congr told rfl (by rw [cfg]; exact SlotPool.acceptFrame_unheldCount _)
  unfold State.acceptFrame
  dsimp only
  rw [State.frameTaken_eq, State.postFrame_eq told']
  dsimp only [State.modCapture, State.modStream, State.frameTaken]
  rw [modAt_modAt]

/-! ### The response (R32) -/

section Response
variable {s : State} {i : Fin 16}

/-- The state in which the response of a steered write has been counted: n writes of its stream still await. -/
def State.counted (s : State) (i : Fin 16) (key : Nat) (resp : Resp) (rest : List DownReq) (n : Nat) : State := { s with
  transit := { s.transit with
    downIssued := rest
    writes := s.transit.writes.map (fun x => if x.key = key then { x with response := some resp } else x) }
  streams := modAt s.streams i (fun st => { st with cap := { st.cap with
    awaiting := n
    fill := if resp = .error ∧ st.cap.abandoned = none
      then st.cap.fill.map (fun f => { f with damaged := true }) else st.cap.fill } }) }

theorem State.counted_stream (key : Nat) (resp : Resp) (rest : List DownReq) (n : Nat) :
    (s.counted i key resp rest n).stream i = { s.stream i with cap := { (s.stream i).cap with
      awaiting := n
      fill := if resp = .error ∧ (s.stream i).cap.abandoned = none
        then (s.stream i).cap.fill.map (fun f => { f with damaged := true }) else (s.stream i).cap.fill } } := modAt_get_self ..

theorem Capture.damage_eq (c : Capture) (resp : Resp) : (if resp = .error then c.damage else c) = { c with
    fill := if resp = .error ∧ c.abandoned = none then c.fill.map (fun f => { f with damaged := true }) else c.fill } := by
  obtain ⟨fill, awaiting, held, abandoned, freshness, timer, lastSeq, missed, orphans, lost⟩ := c
  cases resp <;> cases abandoned <;> rfl

theorem exec_steeredWriteResponse {id : TxnId} {resp : Resp} {key n : Nat} {pre post : List DownReq} {r : DownReq}
    (issued : s.transit.downIssued = pre ++ r :: post) (before : ∀ y ∈ pre, y.isSteered id = false)
    (owner : r.owner = .steeredWrite key i) (same : r.id = id) (left : r.left = 1) (awaits : (s.stream i).cap.awaiting = n + 1) :
    exec (.steeredWriteResponse (.sinceReset id) resp) s = .next (if n = 0
      then (s.counted i key resp (pre ++ post) n).settle i else s.counted i key resp (pre ++ post) n) := by
  refine congrArg Host.Outcome.next ((State.matchDown_append ⟨0, resp⟩ issued before ?_).trans ?_)
  · simp [DownReq.isSteered, owner, same]
  · rw [owner, if_pos left.le]
    have lowered : State.modCapture (State.modTransit { s with transit := { s.transit with downIssued := pre ++ post } }
        fun t => t.modWrite key fun w => { w with response := some resp }) i
        (fun c => { (if resp = .error then c.damage else c) with awaiting := c.awaiting - 1 })
        = s.counted i key resp (pre ++ post) n := by
      have lower (c : Capture) (awaits : c.awaiting = n + 1) : { (if resp = .error then c.damage else c) with
          awaiting := c.awaiting - 1 } = { c with
            awaiting := n
            fill := if resp = .error ∧ c.abandoned = none then c.fill.map (fun f => { f with damaged := true }) else c.fill } := by
        rw [Capture.damage_eq, awaits]
        rfl
      exact State.modStream_congr (s := State.modTransit _ _) (congrArg (fun c => { s.stream i with cap := c }) (lower _ awaits))
    show State.steeredAnswered _ i key resp = _
    unfold State.steeredAnswered
    dsimp only
    rw [lowered, State.counted_stream]

/-! ### The frame settled (R20, R23, R33, R34) -/

/-- A frame with its end mark set completes (R33). -/
def State.finishFrame (s : State) (i : Fin 16) : State :=
  match (s.stream i).cap.fill with
  | none => s
  | some f => if f.endMark then s.completeFrame i f else s

theorem State.finishFrame_of_open (open_ : ∀ f, (s.stream i).cap.fill = some f → f.endMark = false) : s.finishFrame i = s := by
  unfold State.finishFrame
  cases filling : (s.stream i).cap.fill with
  | none => rfl
  | some f => exact if_neg (by rw [open_ f filling]; decide)

theorem State.finishFrame_of_marked {f : Filling} (filling : (s.stream i).cap.fill = some f) (marked : f.endMark = true) :
    s.finishFrame i = s.completeFrame i f := by
  unfold State.finishFrame
  rw [filling]
  exact if_pos marked

theorem State.settle_of_abandoned {m : Nat} (abandoned : (s.stream i).cap.abandoned = some m) :
    s.settle i = (s.modPool (fun p => p.handBack m)).modCapture i (fun c => { c with abandoned := none }) := by
  unfold State.settle
  dsimp only
  rw [abandoned]

/-- With no frame abandoned, the frame is settled as with none held, and the held writes are then taken. -/
theorem State.settle_of_none (kept : (s.stream i).cap.abandoned = none) : s.settle i
    = State.takeHeld i (s.stream i).cap.heldWrites ((s.modCapture i fun c => { c with heldWrites := [] }).finishFrame i) := by
  have filling : ((s.modCapture i fun c => { c with heldWrites := [] }).stream i).cap.fill = (s.stream i).cap.fill := by
    dsimp only [State.modCapture, State.modStream, State.stream]
    rw [modAt_get_self]
  unfold State.settle State.finishFrame
  dsimp only
  rw [kept, filling] <;> rfl

theorem State.settle_of_none_held (kept : (s.stream i).cap.abandoned = none) (empty : (s.stream i).cap.heldWrites = []) :
    s.settle i = s.finishFrame i := by
  rw [State.settle_of_none kept, empty]
  exact congrArg (fun u : State => u.finishFrame i)
    (State.modStream_same (congrArg (fun l => { s.stream i with cap := { (s.stream i).cap with heldWrites := l } }) empty.symm))

/-- A frame is lost with a cause (R26, R34). -/
theorem State.lost_eq (f : Filling) (cause : Nat) : (s.abandonFrame i f).frameLost i cause = { s with
    pool := s.pool.handBack f.slot
    notices := s.notices.take s.time .frameLost i.val cause
    streams := modAt s.streams i (fun st => { st with
      acc := { st.acc.clearSums with state := .idle }
      cap := { st.cap with fill := none, lost := min 65535 (st.cap.lost + 1) } }) } := by
  simp [State.abandonFrame, State.frameLost, State.notify, State.modNotices, State.modCapture, State.modStream,
    State.modAcc, State.modPool, modAt_modAt, Accumulators.dropTo, satAdd, top16]

theorem State.completeFrame_of_damaged {f : Filling} (damaged : f.damaged = true) :
    s.completeFrame i f = (s.abandonFrame i f).frameLost i 3 := if_pos damaged

theorem State.completeFrame_of_foreign {f : Filling} (whole : f.damaged = false) (foreign : f.identity ≠ (s.stream i).cfg.identity) :
    s.completeFrame i f = (s.abandonFrame i f).frameLost i 4 := by
  unfold State.completeFrame
  rw [whole]
  exact if_pos foreign

theorem State.completeFrame_of_whole {f : Filling} (whole : f.damaged = false) (own : f.identity = (s.stream i).cfg.identity) :
    s.completeFrame i f = s.acceptFrame i f := by
  unfold State.completeFrame
  rw [whole]
  exact if_neg fun foreign : f.identity ≠ _ => foreign own

end Response

/-- Settles O14: the last response sets the damaged mark on ERROR, and the frame settled is then the one lost. -/
theorem damagedOrForeignFrameIsLost : Obligations.DamagedOrForeignFrameIsLost := by
  intro s id resp key i rest f cause last filling marked causes
  obtain ⟨⟨pre, post, r, issued, before, owner, same, left, rfl⟩, awaits, kept, empty⟩ := last
  have stream := s.counted_stream (i := i) key resp (pre ++ post) 0
  have lost : ∃ g : Filling, ((s.counted i key resp (pre ++ post) 0).stream i).cap.fill = some g ∧ g.slot = f.slot
      ∧ g.endMark = true ∧ (s.counted i key resp (pre ++ post) 0).completeFrame i g
        = ((s.counted i key resp (pre ++ post) 0).abandonFrame i g).frameLost i cause := by
    by_cases error : resp = .error
    · refine ⟨{ f with damaged := true }, ?_, rfl, marked, ?_⟩
      · rw [stream, filling]
        exact if_pos ⟨error, kept⟩
      · obtain ⟨-, rfl⟩ | ⟨-, okay, -⟩ := causes
        · exact State.completeFrame_of_damaged rfl
        · cases okay.symm.trans error
    · refine ⟨f, ?_, rfl, marked, ?_⟩
      · rw [stream]
        exact (if_neg fun h => error h.1).trans filling
      · obtain ⟨damaged | other, rfl⟩ | ⟨whole, -, foreign, rfl⟩ := causes
        · exact State.completeFrame_of_damaged damaged
        · exact absurd other error
        · exact State.completeFrame_of_foreign whole (by rw [stream]; exact foreign)
  obtain ⟨g, filling', slot, marked', completed⟩ := lost
  have kept' : ((s.counted i key resp (pre ++ post) 0).stream i).cap.abandoned = none := by rw [stream]; exact kept
  have empty' : ((s.counted i key resp (pre ++ post) 0).stream i).cap.heldWrites = [] := by rw [stream]; exact empty
  rw [exec_steeredWriteResponse issued before owner same left awaits, if_pos rfl, State.settle_of_none_held kept' empty',
    State.finishFrame_of_marked filling' marked', completed, State.lost_eq, slot]
  dsimp only [State.counted]
  rw [modAt_modAt]

/-- The stream of an accepted frame. -/
def Stream.accepted (st : Stream) (q : Seq) (full : Prop) [Decidable full] (now : Time) : Stream := { st with
  acc := st.acc.accepted q full
  cap := { st.cap with
    fill := none
    missed := st.cap.missedAfter q
    lastSeq := some q
    freshness := .live
    timer := some (now + BitVec.ofNat 32 st.cfg.ageLimit) } }

/-- Settles O13: the last response leaves the frame as it stands, which is then accepted as `acceptFrame_eq` says. -/
theorem completedFrameIsAccepted : Obligations.CompletedFrameIsAccepted := by
  intro s id key i rest f x groups cut held last filling marked whole own found fills told
  obtain ⟨⟨pre, post, r, issued, before, owner, same, left, rfl⟩, awaits, kept, empty⟩ := last
  have stream : (s.counted i key .okay (pre ++ post) 0).stream i
      = { s.stream i with cap := { (s.stream i).cap with awaiting := 0 } } := s.counted_stream (i := i) key .okay (pre ++ post) 0
  have told' : (s.counted i key .okay (pre ++ post) 0).PostFrame i f.slot groups held cut :=
    State.PostFrame.congr told rfl (by rw [stream]; rfl)
  obtain ⟨t, accepted, taken⟩ : ∃ t, t = (s.counted i key .okay (pre ++ post) 0).acceptFrame i f
      ∧ exec (.steeredWriteResponse (.sinceReset id) .okay) s = .next t := by
    refine ⟨_, rfl, ?_⟩
    rw [exec_steeredWriteResponse issued before owner same left awaits, if_pos rfl,
      State.settle_of_none_held (by rw [stream]; exact kept) (by rw [stream]; exact empty),
      State.finishFrame_of_marked (by rw [stream]; exact filling) marked,
      State.completeFrame_of_whole whole (by rw [stream]; exact own)]
  rw [State.acceptFrame_eq told', stream] at accepted
  have pool : t.pool = (s.pool.acceptFrame i f s.time).heldAs held f.slot := by rw [accepted]; rfl
  have stream' : t.stream i = Stream.accepted { s.stream i with cap := { (s.stream i).cap with awaiting := 0 } } f.sequence
      (4 ≤ s.evals.queue.length) s.time := by
    rw [accepted, ← stream]
    exact modAt_get_self ..
  have others (j : Fin 16) (other : j ≠ i) : t.stream j = s.stream j := by
    rw [accepted]
    exact (modAt_get_other _ _ _ _ other.symm).trans (modAt_get_other _ _ _ _ other.symm)
  refine ⟨t, (s.stream i).acc.frameRecord i f.sequence, taken, ?_, ?_, fun c y current old => ?_, fun m slot other => ?_,
    congrArg (·.cap.fill) stream', congrArg (·.cap.awaiting) stream', congrArg (·.cap.lastSeq) stream',
    congrArg (·.cap.freshness) stream', congrArg (·.cap.timer) stream', congrArg (·.cap.lost) stream', ?_, ?_,
    ⟨rfl, rfl, fun k => ⟨mapAll_get .., mapAll_get ..⟩, rfl, rfl⟩, ?_, ?_, ?_, others, ?_, ?_, ?_, ?_⟩
  · rw [pool]
    exact SlotPool.heldAs_slot (SlotPool.acceptFrame_slot found fills)
  · rw [pool, SlotPool.heldAs_content, SlotPool.acceptFrame_content, modAt_get_self]
  · rw [pool, SlotPool.heldAs_other (SlotPool.filling_ne_current found fills current).symm]
    exact SlotPool.acceptFrame_current found fills current old
  · rw [pool, SlotPool.heldAs_other slot, SlotPool.acceptFrame_other slot other]
  · exact (congrArg (·.cap.missed) stream').trans rfl
  · have notices : (s.counted i key .okay (pre ++ post) 0).frameNotices i f.sequence = s.frameNotices i f.sequence := by
      unfold State.frameNotices State.acceptNotices
      rw [stream]
      rfl
    rw [accepted, notices]
    rfl
  · exact (congrArg Stream.acc stream').trans rfl
  · rw [accepted]
    rfl
  all_goals
    rw [accepted]
    rfl

end Sys2Proof.Machine
end

section
/-! PROOFS. The response of a steered write, in full (R20, R23, R32). -/

namespace Sys2Proof.Machine

/-! ### A pool that has grown (R47) -/

/-- The free list has gained slots at its tail, and no slot has changed its stream or its place. -/
structure SlotPool.Grows (p p' : SlotPool) : Prop where
  free : ∃ more, p'.free = p.free ++ more
  owns : ∀ i n, p'.owns i n = p.owns i n
  base : p'.base = p.base
  size : p'.size = p.size

theorem SlotPool.Grows.refl (p : SlotPool) : p.Grows p := ⟨⟨[], (List.append_nil _).symm⟩, fun _ _ => rfl, rfl, rfl⟩

theorem SlotPool.Grows.trans {p q r : SlotPool} (pq : p.Grows q) (qr : q.Grows r) : p.Grows r := by
  obtain ⟨more, hmore⟩ := pq.free
  obtain ⟨more', hmore'⟩ := qr.free
  exact ⟨⟨more ++ more', by rw [hmore', hmore, List.append_assoc]⟩, fun i n => (qr.owns i n).trans (pq.owns i n),
    qr.base.trans pq.base, qr.size.trans pq.size⟩

/-- A change of a record that is not available, and that keeps its owning stream. -/
theorem SlotPool.update_grows {p : SlotPool} {n : Nat} {x : Slot} {g : Slot → Slot} (found : p.slots[n]? = some x)
    (busy : x.available = false) (owner : ∀ x, (g x).owner = x.owner) : p.Grows (p.update n g) := by
  obtain ⟨-, base, -, size, -⟩ := p.update_frame n g
  refine ⟨?_, fun i m => ?_, base, size⟩
  · rw [SlotPool.update_free_joins found busy]
    split
    · exact ⟨[n], rfl⟩
    · exact ⟨[], (List.append_nil _).symm⟩
  · unfold SlotPool.owns
    rw [p.update_slots]
    by_cases same : n = m
    · rw [if_pos same]
      cases p.slots[m]? with
      | none => rfl
      | some y => simp only [Option.map_some, owner]
    · rw [if_neg same]

theorem Slot.not_available_of_life {x : Slot} (life : x.life ≠ .free) : x.available = false :=
  decide_eq_false fun h => life h.1

section Accept
variable {p : SlotPool} {i : Fin 16} {f : Filling} {now : Time} {x : Slot}

theorem SlotPool.handBack_grows {n : Nat} (found : p.slots[n]? = some x) (filling : x.life = .filling) : p.Grows (p.handBack n) :=
  SlotPool.update_grows found (Slot.not_available_of_life (by rw [filling]; decide)) fun _ => rfl

theorem SlotPool.accepted_grows (found : p.slots[f.slot]? = some x) (filling : x.life = .filling) :
    p.Grows (p.accepted i f now) := by
  obtain ⟨free, owns, base, size⟩ := SlotPool.update_grows (g := fun x => x.accept f now) found
    (Slot.not_available_of_life (by rw [filling]; decide)) fun _ => rfl
  exact ⟨free, owns, base, size⟩

theorem SlotPool.acceptFrame_grows (found : p.slots[f.slot]? = some x) (filling : x.life = .filling) :
    p.Grows (p.acceptFrame i f now) := by
  have taken := SlotPool.accepted_grows (i := i) (now := now) found filling
  cases current : p.currentOf i with
  | none => rw [SlotPool.acceptFrame_of_none current]; exact taken
  | some c =>
    obtain ⟨y, old, life, -⟩ := SlotPool.currentOf_eq_some current
    rw [SlotPool.acceptFrame_of_some current]
    refine taken.trans (SlotPool.update_grows (x := y) ?_ (Slot.not_available_of_life (by rw [life]; decide)) fun _ => rfl)
    rw [SlotPool.accepted_slots, if_neg (SlotPool.filling_ne_current found filling current), old]

theorem SlotPool.heldAs_grows {held : Option Nat} {n : Nat} (found : p.slots[n]? = some x) (busy : x.available = false) :
    p.Grows (p.heldAs held n) := by
  cases held with
  | none => exact .refl p
  | some g => exact SlotPool.update_grows found busy fun _ => rfl

end Accept

/-! ### What the settled frame leaves (R23, R33, R34) -/

/-- The state y in which the writes held for stream i are taken: no write awaits, and nothing stands held; of s, the
configuration and the requests downstream stand as they were. -/
structure State.Settled (s y : State) (i : Fin 16) : Prop where
  pool : s.pool.Grows y.pool
  exact_ : y.FreeListExact
  transit : y.transit = s.transit
  cfg : (y.stream i).cfg = (s.stream i).cfg
  awaiting : (y.stream i).cap.awaiting = (s.stream i).cap.awaiting
  heldWrites : (y.stream i).cap.heldWrites = (s.stream i).cap.heldWrites

section Settled
variable {s y : State} {i : Fin 16} {f : Filling} {x : Slot}

theorem State.Settled.refl (exact_ : s.FreeListExact) : s.Settled s i := ⟨.refl _, exact_, rfl, rfl, rfl, rfl⟩

/-- A change of the stream's record that keeps its configuration, its awaiting count and its held writes. -/
theorem State.Settled.of_stream {g : Stream → Stream} (pool : s.pool.Grows y.pool) (exact_ : y.FreeListExact)
    (transit : y.transit = s.transit) (streams : y.streams = modAt s.streams i g) (cfg : ∀ st, (g st).cfg = st.cfg)
    (awaiting : ∀ st, (g st).cap.awaiting = st.cap.awaiting) (heldWrites : ∀ st, (g st).cap.heldWrites = st.cap.heldWrites) :
    s.Settled y i := by
  have stream : y.stream i = g (s.stream i) := by
    rw [State.stream, streams, modAt_get_self]
    rfl
  exact ⟨pool, exact_, transit, by rw [stream, cfg], by rw [stream, awaiting], by rw [stream, heldWrites]⟩

theorem State.Settled.of_lost (exact_ : s.FreeListExact) (found : s.pool.slots[f.slot]? = some x) (filling : x.life = .filling)
    (cause : Nat) : s.Settled ((s.abandonFrame i f).frameLost i cause) i := by
  rw [State.lost_eq]
  exact .of_stream (SlotPool.handBack_grows found filling) (SlotPool.handBack_exact exact_ _) rfl (by dsimp only) (by exact fun _ => rfl)
    (by exact fun _ => rfl) (by exact fun _ => rfl)

theorem State.Settled.of_accepted (exact_ : s.FreeListExact) (found : s.pool.slots[f.slot]? = some x) (filling : x.life = .filling) :
    s.Settled (s.acceptFrame i f) i := by
  obtain ⟨groups, held, cut, told⟩ := s.exists_postFrame i f.slot
  have kept : (s.acceptFrame i f).FreeListExact := (s.acceptFrame_keeps i f).freeList exact_
  rw [State.acceptFrame_eq told] at kept ⊢
  exact .of_stream ((SlotPool.acceptFrame_grows found filling).trans
    (SlotPool.heldAs_grows (SlotPool.acceptFrame_slot found filling) rfl)) kept rfl (by dsimp only)
    (by exact fun _ => rfl) (by exact fun _ => rfl) (by exact fun _ => rfl)

theorem State.completeFrame_fill : ((s.completeFrame i f).stream i).cap.fill = none := by
  have lost (cause : Nat) : (((s.abandonFrame i f).frameLost i cause).stream i).cap.fill = none := by
    rw [State.lost_eq, State.stream]
    dsimp only
    rw [modAt_get_self]
  obtain ⟨groups, held, cut, told⟩ := s.exists_postFrame i f.slot
  unfold State.completeFrame
  split
  · exact lost 3
  · split
    · exact lost 4
    · rw [State.acceptFrame_eq told, State.stream]
      dsimp only
      rw [modAt_get_self]

theorem State.Settled.of_completed (exact_ : s.FreeListExact) (found : s.pool.slots[f.slot]? = some x)
    (filling : x.life = .filling) : s.Settled (s.completeFrame i f) i := by
  unfold State.completeFrame
  split
  · exact .of_lost exact_ found filling 3
  · split
    · exact .of_lost exact_ found filling 4
    · exact .of_accepted exact_ found filling

theorem State.Settled.of_finished (exact_ : s.FreeListExact) (filling : (s.stream i).cap.fill = some f)
    (found : s.pool.slots[f.slot]? = some x) (fills : x.life = .filling) : s.Settled (s.finishFrame i) i := by
  by_cases marked : f.endMark = true
  · rw [State.finishFrame_of_marked filling marked]
    exact .of_completed exact_ found fills
  · rw [State.finishFrame_of_open fun g filling' => by
      obtain rfl := Option.some.inj (filling.symm.trans filling')
      exact Bool.eq_false_iff.2 marked]
    exact .refl exact_

/-- A start write that need not wait is taken when the frame before it, completed or torn, is settled (R23, R27). -/
theorem State.Settled.starts {t : State} {w : CaptureWrite} (exact_ : s.FreeListExact) (filling : (s.stream i).cap.fill = some f)
    (found : s.pool.slots[f.slot]? = some x) (fills : x.life = .filling) (enabled : (s.stream i).cfg.enabled = true)
    (start : w.offset = 0) (taken : (s.finishFrame i).WriteTaken t i w) : ∃ y, s.Settled y i ∧ y.FrameStarts t i w := by
  by_cases marked : f.endMark = true
  · rw [State.finishFrame_of_marked filling marked] at taken
    have settled : s.Settled (s.completeFrame i f) i := .of_completed exact_ found fills
    obtain ⟨-, ofEnabled⟩ := taken
    obtain ⟨-, ofIdle, -⟩ := ofEnabled (by rw [settled.cfg]; exact enabled)
    exact ⟨_, settled, ofIdle State.completeFrame_fill start⟩
  · rw [State.finishFrame_of_open fun g filling' => by
      obtain rfl := Option.some.inj (filling.symm.trans filling')
      exact Bool.eq_false_iff.2 marked] at taken
    obtain ⟨-, ofEnabled⟩ := taken
    obtain ⟨-, -, ofFilling⟩ := ofEnabled enabled
    refine ⟨_, ?_, (ofFilling f filling).1 start⟩
    rw [← s.torn_eq i f]
    exact .of_lost exact_ found fills 2

end Settled

/-! ### The response with no write held, of an abandoned frame, and with held writes (R20, R23, R32) -/

section Held
variable {s : State} {i : Fin 16}

/-- The frame that a start write begins in the first slot of the free list that the stream owns (R24). -/
theorem State.Settled.begins {y t : State} {w : CaptureWrite} {m : Nat} {front back : List Nat} (settled : s.Settled y i)
    (begins : y.FrameStarts t i w) (free : s.pool.free = front ++ m :: back) (before : ∀ k ∈ front, s.pool.owns i k = false)
    (owned : s.pool.owns i m = true) :
    t.stream i = { y.stream i with
        cap := { (y.stream i).cap with
          fill := some ((s.stream i).cfg.begun m w.beats), awaiting := (s.stream i).cap.awaiting + 1 }
        acc := ((s.stream i).cfg.cleared (y.stream i).acc .collecting).takeWrite 0
          (64 + 4 * (s.stream i).cfg.w * (s.stream i).cfg.h) w.beats }
      ∧ (t.pool.slots[m]?).map Slot.life = some .filling
      ∧ t.transit.downWaiting = s.transit.downWaiting
        ++ [s.steeredTo i m (64 + 4 * (s.stream i).cfg.w * (s.stream i).cfg.h) w] := by
  obtain ⟨more, grown⟩ := settled.pool.free
  obtain ⟨p, gives, rfl⟩ := begins.1 m front (back ++ more) (by rw [grown, free, List.append_assoc]; rfl)
    (fun k mem => (settled.pool.owns i k).trans (before k mem)) ((settled.pool.owns i m).trans owned)
  obtain ⟨-, -, ⟨x, -, given⟩, -⟩ := gives settled.exact_
  refine ⟨?_, by rw [given]; rfl, ?_⟩
  · rw [← settled.cfg, ← settled.awaiting]
    exact modAt_get_self ..
  · dsimp only [State.steeredTo]
    rw [settled.transit, settled.cfg, settled.pool.base, settled.pool.size]

/-- A response with no write held: its write is answered, and the count lowered (R32). -/
theorem State.counted_settle_of_open {key : Nat} {resp : Resp} {rest : List DownReq} (kept : (s.stream i).cap.abandoned = none)
    (empty : (s.stream i).cap.heldWrites = []) (open_ : ∀ f, (s.stream i).cap.fill = some f → f.endMark = false) :
    (s.counted i key resp rest 0).settle i = s.counted i key resp rest 0 := by
  have stream := s.counted_stream (i := i) key resp rest 0
  rw [State.settle_of_none_held (by rw [stream]; exact kept) (by rw [stream]; exact empty), State.finishFrame_of_open]
  rw [stream]
  intro f filling
  dsimp only at filling
  split at filling
  · obtain ⟨g, filling', rfl⟩ := Option.map_eq_some_iff.1 filling
    exact open_ g filling'
  · exact open_ f filling

/-- The frame in progress after a response: it, or it with its damaged mark. -/
theorem State.counted_fill {key n : Nat} {resp : Resp} {rest : List DownReq} {f : Filling} (filling : (s.stream i).cap.fill = some f) :
    ∃ g : Filling, ((s.counted i key resp rest n).stream i).cap.fill = some g ∧ g.slot = f.slot := by
  rw [s.counted_stream (i := i) key resp rest n, filling]
  dsimp only
  split
  · exact ⟨_, rfl, rfl⟩
  · exact ⟨f, rfl, rfl⟩

/-- The writes held behind a frame begun with one write awaiting: none, or a start write at the head, which goes on waiting. -/
theorem State.TakesInTurn.behind_start {t : State} {ws : List CaptureWrite} {g : Filling} (turn : s.TakesInTurn t i ws)
    (behind : ws = [] ∨ ∃ v vs, ws = v :: vs ∧ v.offset = 0) (begun : (s.stream i).cap.fill = some g)
    (awaits : (s.stream i).cap.awaiting = 1) (empty : (s.stream i).cap.heldWrites = []) :
    t = s.modCapture i fun c => { c with heldWrites := ws } := by
  obtain rfl | ⟨v, vs, rfl, start⟩ := behind
  · have same : (s.modCapture i fun c => { c with heldWrites := [] }) = s := State.modStream_same
      (congrArg (fun l => { s.stream i with cap := { (s.stream i).cap with heldWrites := l } }) empty.symm)
    rw [same]
    exact turn
  · exact turn.1 ⟨g, begun, by omega, .inr start⟩

end Held

/-- The held writes taken out of the record of stream i. -/
def State.unheld (s : State) (i : Fin 16) : State := s.modCapture i fun c => { c with heldWrites := [] }

theorem State.unheld_stream (s : State) (i : Fin 16) : (s.unheld i).stream i
    = { s.stream i with cap := { (s.stream i).cap with heldWrites := [] } } := modAt_get_self ..

theorem State.counted_unheld (s : State) (i : Fin 16) (key : Nat) (resp : Resp) (rest : List DownReq) (n : Nat) :
    (s.counted i key resp rest n).unheld i = (s.unheld i).counted i key resp rest n := by
  dsimp only [State.counted, State.unheld, State.modCapture, State.modStream]
  rw [modAt_modAt, modAt_modAt]

/-- Settles O12: the response is counted; at zero `settle` hands an abandoned slot back, or settles the frame and takes the
held writes in turn, of which a start write at the head begins its frame in the settled state. -/
theorem steeredResponseLowersTheCount : Obligations.SteeredResponseLowersTheCount := by
  intro s id resp key i pre post r n issued before owner same left awaits
  have answered := exec_steeredWriteResponse (resp := resp) issued before owner same left awaits
  have stream := s.counted_stream (i := i) key resp (pre ++ post) n
  refine ⟨fun waits => ?_, ?_, ?_, ?_⟩
  · rw [answered]
    refine congrArg Host.Outcome.next ?_
    split
    · rename_i last
      obtain ⟨kept, empty, open_⟩ := waits last
      subst last
      exact State.counted_settle_of_open kept empty open_
    · rfl
  · rintro rfl m abandoned
    have abandoned' : ((s.counted i key resp (pre ++ post) 0).stream i).cap.abandoned = some m := by rw [stream]; exact abandoned
    rw [answered, if_pos rfl, State.settle_of_abandoned abandoned']
    refine congrArg Host.Outcome.next ?_
    dsimp only [State.counted, State.modPool, State.modCapture, State.modStream]
    rw [modAt_modAt]
    congr 1
    refine modAt_congr _ _ _ _ ?_
    have abandoned : s.streams[i].cap.abandoned = some m := abandoned
    simp only [abandoned, reduceCtorEq, and_false, if_false]
  · rintro rfl f x w ws m front back kept filling held start behind enabled exact_ found fills free before' owned
    have settle : (s.counted i key resp (pre ++ post) 0).settle i
        = State.takeHeld i (w :: ws) (((s.counted i key resp (pre ++ post) 0).unheld i).finishFrame i) := by
      rw [State.settle_of_none (by rw [stream]; exact kept), stream, ← held]
      rfl
    have base : ((s.counted i key resp (pre ++ post) 0).unheld i).stream i = { s.stream i with cap := { (s.stream i).cap with
        awaiting := 0
        heldWrites := []
        fill := ((s.counted i key resp (pre ++ post) 0).stream i).cap.fill } } := by
      rw [State.unheld_stream, stream]
    obtain ⟨g, filling', slot⟩ := s.counted_fill (i := i) (key := key) (n := 0) (resp := resp) (rest := pre ++ post) filling
    have filling' : (((s.counted i key resp (pre ++ post) 0).unheld i).stream i).cap.fill = some g := by rw [base, filling']
    rw [answered, if_pos rfl, settle]
    obtain ⟨v, hv⟩ : ∃ v, (s.counted i key resp (pre ++ post) 0).unheld i = v := ⟨_, rfl⟩
    rw [hv] at base filling' ⊢
    have pool : v.pool = s.pool := by rw [← hv]; rfl
    have found' : v.pool.slots[g.slot]? = some x := by rw [pool, slot]; exact found
    have exact' : v.FreeListExact := by rw [State.FreeListExact, pool]; exact exact_
    have settled : v.Settled (v.finishFrame i) i := .of_finished exact' filling' found' fills
    obtain ⟨-, turn⟩ := State.takeHeld_spec i (w :: ws) (v.finishFrame i)
    obtain ⟨u, taken, turn⟩ := turn fun ⟨_, _, awaits, _⟩ => by
      rw [settled.awaiting, base] at awaits
      exact absurd awaits (lt_irrefl 0)
    obtain ⟨y, settled, starts⟩ := State.Settled.starts exact' filling' found' fills (by rw [base]; exact enabled) start taken
    obtain ⟨begun, life, formed⟩ := settled.begins starts (by rw [pool]; exact free) (by rw [pool]; exact before')
      (by rw [pool]; exact owned)
    have empty : (u.stream i).cap.heldWrites = [] := by
      rw [begun]
      exact settled.heldWrites.trans (by rw [base])
    have awaits : (u.stream i).cap.awaiting = 1 := by rw [begun, base]
    have held' := turn.behind_start behind (by rw [begun]) awaits empty
    have stream' : (State.takeHeld i (w :: ws) (v.finishFrame i)).stream i
        = { u.stream i with cap := { (u.stream i).cap with heldWrites := ws } } := by
      rw [held']
      exact modAt_get_self ..
    refine ⟨_, rfl, ?_, ?_, ?_, ?_, ⟨(y.stream i).acc, ?_⟩, ?_⟩
    · rw [stream', begun, base]
    · rw [stream']
      exact awaits
    · rw [stream']
    · rw [held']
      exact life
    · rw [stream', begun, base]
    · rw [held']
      exact formed.trans (by rw [State.steeredTo, State.steeredTo, base, pool, ← hv]; rfl)
  · rintro rfl kept u without
    have taken : exec (.steeredWriteResponse (.sinceReset id) resp) (s.unheld i)
        = .next (((s.unheld i).counted i key resp (pre ++ post) 0).finishFrame i) := by
      have awaits' : ((s.unheld i).stream i).cap.awaiting = 0 + 1 := by rw [State.unheld_stream]; exact awaits
      have stream' := (s.unheld i).counted_stream (i := i) key resp (pre ++ post) 0
      rw [exec_steeredWriteResponse (s := s.unheld i) issued before owner same left awaits', if_pos rfl,
        State.settle_of_none_held (by rw [stream', State.unheld_stream]; exact kept) (by rw [stream', State.unheld_stream])]
    obtain rfl : ((s.unheld i).counted i key resp (pre ++ post) 0).finishFrame i = u :=
      Host.Outcome.next.inj (taken.symm.trans without)
    refine ⟨_, answered.trans (congrArg Host.Outcome.next ((if_pos rfl).trans (State.settle_of_none (by rw [stream]; exact kept)))), ?_⟩
    rw [stream, ← State.counted_unheld]
    exact State.takeHeld_spec ..

end Sys2Proof.Machine
end

section
/-! PROOFS. Gather beats, the answer of a screen read, and its return (R101, R104, R111, R112, R115). -/

namespace Sys2Proof.Machine

/-! ### Gather beats (R111) -/

/-- A gather beat reaches the one read of its name. -/
theorem State.gatherAnswered_eq {s : State} {rpre rpost : List ReadTxn} {x : ReadTxn} {r : ScreenRead} (slot offset : Nat)
    (beat : ReadBeat) (reads : s.transit.reads = rpre ++ x :: rpost) (unique : ∀ y ∈ rpre ++ rpost, y.key ≠ x.key)
    (service : x.service = .screen r) : s.gatherAnswered x.key slot offset beat
      = (fun t : State => if beat.resp = .error then t.gatherFault r.screen slot else t)
        { s with transit := { s.transit with
          reads := rpre ++ { x with service := .screen (r.deliver slot offset beat) } :: rpost } } := by
  have found : s.transit.reads.find? (fun y => decide (y.key = x.key)) = some x := by
    rw [reads, List.find?_append, List.find?_eq_none.2 fun y mem => by simp [unique y (List.mem_append_left _ mem)],
      List.find?_cons_of_pos (by simp)]
    rfl
  unfold State.gatherAnswered
  rw [found]
  simp only [service, State.modTransit, Transit.modRead]
  rw [reads, map_of_unique_key ReadTxn.key (fun y => { y with service := .screen (r.deliver slot offset beat) }) unique]

/-- Settles O21: the n-th issued gather read is matched, its beat fills the block of its read, and an ERROR is told. -/
theorem gatherBeatIsDelivered : Obligations.GatherBeatIsDelivered := by
  intro s n beat pre post d rpre rpost x r slot offset issued place owner left reads unique service t taken
  subst taken
  refine congrArg Host.Outcome.next ((State.matchDown_nth beat issued place ?_ left).trans ?_)
  · simp [DownReq.isGather, owner]
  · rw [owner]
    refine (State.gatherAnswered_eq (s := { s with transit := { s.transit with downIssued := pre ++ post } }) slot offset beat
      reads unique service).trans ?_
    dsimp only
    split <;> rfl

/-! ### The return of a screen read (R112, R115) -/

theorem State.closeIfServed_of_frame {s : State} {c : Fin 2} {f : ScreenFrame} (open_ : (s.screen c).frame = some f) :
    s.closeIfServed c = if (f.endSeen = true ∨ f.expired = true) ∧ f.inFlight = 0 then s.closeFrame c f else s := by
  unfold State.closeIfServed
  rw [open_]
  exact if_congr (by simp) rfl rfl

/-- A read of a latched frame leaves it, and the frame closes when it was the last of a served one. -/
theorem State.screenReturned_of_latched {s : State} {r : ScreenRead} {f : ScreenFrame} (latched : r.latched = true)
    (open_ : (s.screen r.screen).frame = some f) : s.screenReturned r
      = (fun t : State => if (f.endSeen = true ∨ f.expired = true) ∧ f.inFlight - 1 = 0 then t.closeFrame r.screen f else t)
        { s with comp := { s.comp with screens := modAt s.comp.screens r.screen (fun y =>
          { y with frame := some { f with inFlight := f.inFlight - 1 } }) } } := by
  have left : s.modScreen r.screen (fun x => { x with frame := x.frame.map (fun f => { f with inFlight := f.inFlight - 1 }) })
      = { s with comp := { s.comp with screens := modAt s.comp.screens r.screen (fun y =>
          { y with frame := some { f with inFlight := f.inFlight - 1 } }) } } := by
    refine congrArg (fun v => { s with comp := { s.comp with screens := v } }) (modAt_congr _ _ _ _ ?_)
    have open_ : s.comp.screens[r.screen].frame = some f := open_
    simp only [open_, Option.map_some]
  unfold State.screenReturned
  rw [latched, left]
  refine State.closeIfServed_of_frame (f := { f with inFlight := f.inFlight - 1 }) ?_
  dsimp only [State.screen]
  rw [modAt_get_self]

/-- Settles O22: the answer is returned, and then the latched read leaves its frame, or the unlatched one drops its pins. -/
theorem screenReadsReturn : Obligations.ScreenReadsReturn := by
  intro s id pre post x r reads before own service complete mode nobody t taken
  subst taken
  have whole : r.complete = true := List.all_eq_true.2 fun b mem => Option.isSome_iff_ne_none.2 (complete b mem)
  have ready : x.ready = true := by simp [ReadTxn.ready, service, whole]
  have answer : x.answer = r.answer x.req.beats := by simp [ReadTxn.answer, service]
  have returned : exec (.answerReturned .read id) s = .next { s.screenReturned r with transit := { s.transit with
      reads := pre ++ post, lastAnswer := some (.read id (r.answer x.req.beats)) } } := by
    refine congrArg Host.Outcome.next ((State.returnRead_ready reads before own ready).trans ?_)
    rw [State.settlePort_idle (by exact mode) (by exact nobody), answer]
    simp only [State.readReturned, service]
  refine ⟨fun unlatched => returned.trans ?_, fun latched f open_ => ⟨fun last served => returned.trans ?_,
    fun stays => returned.trans ?_⟩⟩
  · rw [State.screenReturned, unlatched]
    rfl
  · rw [State.screenReturned_of_latched latched open_]
    dsimp only
    rw [if_pos ⟨served, by rw [last]⟩]
    dsimp only [State.closeFrame, State.modPool, State.modScreen]
    rw [modAt_modAt]
    rfl
  · rw [State.screenReturned_of_latched latched open_]
    dsimp only
    rw [if_neg fun h => ?_]
    obtain ⟨served, last⟩ := h
    rcases stays with more | ⟨unseen, running⟩
    · omega
    · rw [unseen, running] at served
      exact served.elim Bool.false_ne_true Bool.false_ne_true

/-! ### The answer of a screen read (R101) -/

theorem getElem?_flatMap_four {α : Type} (f : α → List Byte) (len : ∀ x, (f x).length = 4) (l : List α) (k j : Nat) (hj : j < 4) :
    (l.flatMap f)[4 * k + j]? = (l[k]?).bind fun x => (f x)[j]? := by
  induction l generalizing k with
  | nil => rfl
  | cons x l ih =>
    rw [List.flatMap_cons]
    cases k with
    | zero => rw [Nat.mul_zero, Nat.zero_add, List.getElem?_append_left (by rw [len]; exact hj)]; rfl
    | succ k =>
      rw [List.getElem?_append_right (by rw [len]; omega), len, show 4 * (k + 1) + j - 4 = 4 * k + j by omega, ih]
      rfl

theorem ScreenRead.sources_getElem? (r : ScreenRead) {beats k : Nat} (below : k < 4 * beats) : (r.sources beats)[k]?
    = some (pixelOf r.bg r.panes ((r.offset / 4 + k) % r.width) ((r.offset / 4 + k) / r.width)) := by
  simp [ScreenRead.sources, readPixels, below]

/-- Byte j of pixel i of beat b of the answer. -/
theorem ScreenRead.answer_byte (r : ScreenRead) {beats b i j : Nat} {v : Byte} {c : Colour} (hb : b < beats) (hi : i < 4)
    (hc : c = r.colour (pixelOf r.bg r.panes ((r.offset / 4 + 4 * b + i) % r.width) ((r.offset / 4 + 4 * b + i) / r.width)))
    (hj : j < 4) (hv : c.bytes[j]? = some v) :
    ∃ beat, (r.answer beats)[b]? = some beat ∧ beat.resp = .okay ∧ lineByte beat.data (4 * i + j) = v := by
  subst hc
  refine ⟨⟨lineOf ((((r.sources beats).flatMap fun x => (r.colour x).bytes).drop (16 * b)).take 16), .okay⟩,
    by simp [ScreenRead.answer, hb], rfl, lineByte_lineOf (by omega) ?_⟩
  rw [List.getElem?_take_of_lt (by omega), List.getElem?_drop, show 16 * b + (4 * i + j) = 4 * (4 * b + i) + j by omega,
    getElem?_flatMap_four _ (fun _ => rfl) _ _ _ hj, r.sources_getElem? (by omega), ← Nat.add_assoc]
  exact hv

/-- Settles O20: a beat is made of the bytes of its four pixels in order, and a gathered block is found by its place. -/
theorem aperturePixelsInOrder : Obligations.AperturePixelsInOrder := by
  refine ⟨fun r beats b i c hb hi hc => ?_, fun r j n block within dim g pre post blocks before => ?_, fun r c => rfl⟩
  · obtain ⟨beat, found, okay, red⟩ := r.answer_byte (j := 0) hb hi hc (by decide) rfl
    have byte (j : Nat) (hj : j < 4) (v : Byte) (hv : c.bytes[j]? = some v) : lineByte beat.data (4 * i + j) = v := by
      obtain ⟨beat', found', -, same⟩ := r.answer_byte hb hi hc hj hv
      rwa [Option.some.inj (found'.symm.trans found)] at same
    exact ⟨beat, found, okay, red, byte 1 (by decide) _ rfl, byte 2 (by decide) _ rfl, byte 3 (by decide) _ rfl⟩
  · have found : r.block? n block = some ⟨n, block, some g⟩ := by
      rw [ScreenRead.block?, blocks, List.find?_append, List.find?_eq_none.2 fun y mem => by
        rw [decide_eq_true_eq]; exact before y mem, List.find?_cons_of_pos (by simp)]
      rfl
    simp only [ScreenRead.colour, found]
    cases dim <;> rfl

end Sys2Proof.Machine
end

section
/-! PROOFS. Screen reads served (R104, R105, R112, R115): the blocks and the slots a read uses, and the read that joins its
frame or stands for itself. -/

namespace Sys2Proof.Machine

/-! ### The slots a read uses, in the order of the panes (R113, R115) -/

/-- A pixel that takes a source pixel takes it from the slot of the pane at its place. -/
theorem pixelOf_source {bg : Colour} {ps : List ViewPane} {x y j n block within : Nat} {dim : Bool}
    (source : pixelOf bg ps x y = .source j n block within dim) : ∃ v, ps[j]? = some v ∧ v.slot = some n := by
  have fromPane (v : ViewPane) (i : Nat) (d : Bool) (h : v.sourcePixel i x y d = .source j n block within dim) :
      i = j ∧ v.slot = some n := by
    unfold ViewPane.sourcePixel at h
    cases slot : v.slot with
    | none => rw [slot] at h; cases h
    | some m =>
      rw [slot] at h
      obtain ⟨rfl, rfl, -⟩ := PixelSource.source.inj h
      exact ⟨rfl, rfl⟩
  unfold pixelOf at source
  split at source
  · cases source
  · rename_i v i covering
    have place : ps[i]? = some v := by
      have mem := List.mem_reverse.1 (List.mem_of_find?_eq_some covering)
      exact List.mk_mem_zipIdx_iff_getElem?.1 mem
    have taken : i = j ∧ v.slot = some n := by
      unfold ViewPane.pixel at source
      split at source
      · exact fromPane v i _ source
      · cases source
      · split at source
        · cases source
        · exact fromPane v i _ source
      · split at source
        · cases source
        · exact fromPane v i _ source
      · split at source
        · cases source
        · exact fromPane v i _ source
    obtain ⟨rfl, slot⟩ := taken
    exact ⟨v, place, slot⟩

theorem ScreenRead.takes_iff (r : ScreenRead) (beats j n : Nat) : r.takes beats j n
    ↔ ∃ block within dim, PixelSource.source j n block within dim ∈ r.sources beats := by
  simp only [ScreenRead.takes, ScreenRead.mem_sources]
  exact ⟨fun ⟨k, b, w, d, hk, hp⟩ => ⟨b, w, d, k, hk, hp⟩, fun ⟨b, w, d, k, hk, hp⟩ => ⟨k, b, w, d, hk, hp⟩⟩

/-- The first occurrences of the slots in a list of (slot, pane) pairs in ascending order of the pane. -/
theorem distinct_firsts {l : List (Nat × Nat)} (ascending : l.Pairwise fun a b => a.2 < b.2) :
    (distinct (l.map Prod.fst)).Pairwise fun n m => ∃ j, (n, j) ∈ l ∧ ∀ k, k ≤ j → (m, k) ∉ l := by
  induction l with
  | nil => exact .nil
  | cons a l ih =>
    obtain ⟨first, rest⟩ := List.pairwise_cons.1 ascending
    rw [List.map_cons, distinct, List.pairwise_cons]
    refine ⟨fun m mem => ⟨a.2, List.mem_cons_self, fun k low other => ?_⟩, ?_⟩
    · have apart : m ≠ a.1 := by simpa using (List.mem_filter.1 mem).2
      obtain rfl | later := List.mem_cons.1 other
      · exact apart rfl
      · exact absurd (first _ later) low.not_gt
    · refine ((ih rest).filter _).imp_of_mem fun {_ m} _ mem ⟨j, taken, before⟩ =>
        ⟨j, List.mem_cons_of_mem _ taken, fun k low other => ?_⟩
      have apart : m ≠ a.1 := by simpa using (List.mem_filter.1 mem).2
      obtain rfl | later := List.mem_cons.1 other
      · exact apart rfl
      · exact before k low later

/-- Whether a pixel takes its colour from the pane at a place. -/
def PixelSource.isFrom (j : Nat) : PixelSource → Bool
  | .flat _ => false
  | .source k _ _ _ _ => decide (k = j)

/-- The panes that supply a pixel, with their slots. -/
def usedPairs (panes : List ViewPane) (src : List PixelSource) : List (Nat × Nat) :=
  panes.zipIdx.filterMap fun v => if src.any (PixelSource.isFrom v.2) = true then v.1.slot.map (·, v.2) else none

theorem usedSlots_eq (panes : List ViewPane) (src : List PixelSource) :
    usedSlots panes src = distinct ((usedPairs panes src).map Prod.fst) := by
  rw [usedPairs, List.map_filterMap, usedSlots]
  refine congrArg distinct (congrArg (fun f => panes.zipIdx.filterMap f) (funext fun v => ?_))
  by_cases used : src.any (PixelSource.isFrom v.2) = true
  · rw [if_pos used]
    refine (if_pos ?_).trans ?_
    · obtain ⟨x, mem, from_⟩ := List.any_eq_true.1 used
      exact List.any_eq_true.2 ⟨x, mem, by cases x <;> exact from_⟩
    · cases v.1.slot <;> rfl
  · rw [if_neg used]
    refine if_neg fun some_ => used ?_
    obtain ⟨x, mem, from_⟩ := List.any_eq_true.1 some_
    exact List.any_eq_true.2 ⟨x, mem, by cases x <;> exact from_⟩

theorem usedPairs_ascending (panes : List ViewPane) (src : List PixelSource) :
    (usedPairs panes src).Pairwise fun a b => a.2 < b.2 := by
  have places : panes.zipIdx.Pairwise fun a b => a.2 < b.2 :=
    List.pairwise_map.1 (by rw [List.zipIdx_map_snd]; exact List.pairwise_lt_range')
  refine places.filterMap _ fun a b lt x hx y hy => ?_
  have place {a : ViewPane × Nat} {x : Nat × Nat}
      (h : x ∈ if src.any (PixelSource.isFrom a.2) = true then a.1.slot.map (·, a.2) else none) : x.2 = a.2 := by
    split at h
    · obtain ⟨n, -, rfl⟩ := Option.map_eq_some_iff.1 h
      rfl
    · cases h
  rw [place hx, place hy]
  exact lt

theorem ScreenRead.mem_usedPairs (r : ScreenRead) (beats n j : Nat) :
    (n, j) ∈ usedPairs r.panes (r.sources beats) ↔ r.takes beats j n := by
  have pairs (v : ViewPane) (i : Nat) : (if (r.sources beats).any (PixelSource.isFrom i) = true then v.slot.map (·, i) else none)
      = some (n, j) ↔ i = j ∧ v.slot = some n ∧ ∃ x ∈ r.sources beats, x.isFrom j = true := by
    rw [← List.any_eq_true]
    constructor
    · intro h
      split at h
      · rename_i used
        obtain ⟨m, slot, same⟩ := Option.map_eq_some_iff.1 h
        obtain ⟨rfl, rfl⟩ := Prod.mk.inj same
        exact ⟨rfl, slot, used⟩
      · cases h
    · rintro ⟨rfl, slot, used⟩
      rw [if_pos used, slot]
      rfl
  rw [usedPairs, List.mem_filterMap, ScreenRead.takes_iff]
  constructor
  · rintro ⟨⟨v, i⟩, mem, h⟩
    obtain ⟨rfl, slot, x, supplied, own⟩ := (pairs v i).1 h
    cases x with
    | flat c => cases own
    | source k m b w d =>
      obtain rfl := of_decide_eq_true own
      obtain ⟨v', place, slot'⟩ : ∃ v', r.panes[k]? = some v' ∧ v'.slot = some m := by
        obtain ⟨_, _, hp⟩ := (r.mem_sources ..).1 supplied
        exact pixelOf_source hp
      obtain rfl : v = v' := Option.some.inj ((List.mk_mem_zipIdx_iff_getElem?.1 mem).symm.trans place)
      obtain rfl : n = m := Option.some.inj (slot.symm.trans slot')
      exact ⟨b, w, d, supplied⟩
  · rintro ⟨b, w, d, supplied⟩
    obtain ⟨_, _, hp⟩ := (r.mem_sources ..).1 supplied
    obtain ⟨v, place, slot⟩ := pixelOf_source hp
    exact ⟨(v, j), List.mk_mem_zipIdx_iff_getElem?.2 place,
      (pairs v j).2 ⟨rfl, slot, _, supplied, decide_eq_true rfl⟩⟩

theorem ScreenRead.uses_usedSlots (r : ScreenRead) (beats : Nat) : r.uses beats (usedSlots r.panes (r.sources beats)) := by
  rw [usedSlots_eq]
  refine ⟨nodup_distinct _, fun n => ?_, (distinct_firsts (usedPairs_ascending _ _)).imp fun ⟨j, taken, before⟩ => ?_⟩
  · simp only [mem_distinct, List.mem_map, Prod.exists, exists_and_right, exists_eq_right, ScreenRead.mem_usedPairs]
  · exact ⟨j, (r.mem_usedPairs ..).1 taken, fun k low other => before k low ((r.mem_usedPairs ..).2 other)⟩

/-! ### A read served (R104) -/

theorem Transit.formGathers_downWaiting (t : Transit) (p : SlotPool) (key : Nat) (blocks : List GatherBlock) :
    ∃ gathers, (t.formGathers p key blocks).downWaiting = t.downWaiting ++ gathers
      ∧ gathers.map (fun g => (g.owner, g.dir, g.addr, g.beats, g.left))
        = blocks.map (fun b => (.gather key b.slot b.offset, .read, p.base + b.slot * p.size + b.offset, 1, 1)) := by
  induction blocks generalizing t with
  | nil => exact ⟨[], (List.append_nil _).symm, rfl⟩
  | cons b bs ih =>
    obtain ⟨gathers, formed, as_⟩ := ih (t.formOwn (.gather key b.slot b.offset) .read (p.slotBase b.slot + b.offset) 1 [])
    exact ⟨_ :: gathers, formed.trans (List.append_assoc ..), congrArg (List.cons _) as_⟩

/-- A screen read served by a state v that has taken no other read: it stands behind the others with its gathers formed. -/
theorem State.serveScreen_serves {s v : State} {rs : List ReadTxn} (q : ReadReq) (r : ScreenRead) (reads : v.transit.reads = rs)
    (key : v.transit.nextKey = s.transit.nextKey) (down : v.transit.downWaiting = s.transit.downWaiting)
    (base : v.pool.base = s.pool.base) (size : v.pool.size = s.pool.size) :
    s.Serves (v.serveScreen q r) rs q { r with blocks := neededBlocks (r.sources q.beats) } := by
  obtain ⟨d, n, frame⟩ := Transit.formGathers_frame
    (v.transit.addRead q (.screen { r with blocks := neededBlocks (r.sources q.beats) }) []) v.pool v.transit.nextKey (neededBlocks (r.sources q.beats))
  obtain ⟨once, none_⟩ := neededBlocks_fresh (r.sources q.beats)
  refine ⟨?_, once, none_, fun n block => (mem_neededBlocks ..).trans ?_, ?_⟩
  · rw [← key, ← reads]
    exact congrArg Transit.reads frame
  · simp only [ScreenRead.mem_sources, ScreenRead.needs]
    exact ⟨fun ⟨j, w, d, k, hk, hp⟩ => ⟨k, hk, j, w, d, hp⟩, fun ⟨k, hk, j, w, d, hp⟩ => ⟨j, w, d, k, hk, hp⟩⟩
  · obtain ⟨gathers, formed, as_⟩ := Transit.formGathers_downWaiting
      (v.transit.addRead q (.screen { r with blocks := neededBlocks (r.sources q.beats) }) []) v.pool v.transit.nextKey
      (neededBlocks (r.sources q.beats))
    exact ⟨gathers, formed.trans (congrArg (· ++ gathers) down), by rw [as_, key, base, size]⟩

/-- What serving a read changes beside the Transit Path: nothing. -/
theorem State.serveScreen_eq (s : State) (q : ReadReq) (r : ScreenRead) :
    s.serveScreen q r = { s with transit := (s.serveScreen q r).transit } := rfl

theorem SlotPool.pinAll_frame (p : SlotPool) (l : List Nat) : (p.pinAll l).base = p.base ∧ (p.pinAll l).size = p.size := by
  unfold SlotPool.pinAll
  induction l generalizing p with
  | nil => exact ⟨rfl, rfl⟩
  | cons n l ih =>
    obtain ⟨base, size⟩ := ih (p.pin n)
    obtain ⟨-, base', -, size', -⟩ := p.update_frame n Slot.pin
    exact ⟨base.trans base', size.trans size'⟩

/-! ### The cases of R105 -/

section Aperture
variable {s : State} {q : ReadReq} {c : Fin 2} {o : Nat}

theorem exec_screenRead (wf : q.wf = true) (admitted : s.admits .read) (active : s.transit.mode = .active)
    (decoded : decodeAccess s.transit.windows s.pool.size q.addr.toNat q.burst q.beats = .screen c o) :
    exec (.upstreamReadAccepted q) s = .next (s.readScreen c q o) := by
  rw [exec_read_of_admits wf admitted, State.acceptRead_active active, decoded]

theorem State.readScreen_of_open {f : ScreenFrame} (above : 0 < o) (open_ : (s.screen c).frame = some f) (running : f.expired = false) :
    s.readScreen c q o = s.serveLatched c f q o := by
  unfold State.readScreen
  rw [if_neg above.ne', open_]
  exact if_neg (by rw [running]; decide)

theorem State.readScreen_of_unlatched (above : 0 < o) (none_ : ∀ f, (s.screen c).frame = some f → f.expired = true) :
    s.readScreen c q o = s.serveUnlatched c q o := by
  unfold State.readScreen
  rw [if_neg above.ne']
  cases open_ : (s.screen c).frame with
  | none => rfl
  | some f => exact if_pos (none_ f open_)

end Aperture

/-- Settles O17: the screen has an OPEN frame, or the read is unlatched; either is served as `serveScreen_serves` says. -/
theorem screenReadsJoinTheirFrameOrAreUnlatched : Obligations.ScreenReadsJoinTheirFrameOrAreUnlatched := by
  intro s q c o wf admitted active decoded above
  rw [exec_screenRead wf admitted active decoded]
  have screens (f : Screen → Screen) (d : Fin 2) (other : d ≠ c) : (modAt s.comp.screens c f)[d] = s.comp.screens[d] :=
    modAt_get_other _ _ _ _ other.symm
  by_cases joins : ∃ f, (s.screen c).frame = some f ∧ f.expired = false
  · obtain ⟨f, open_, running⟩ := joins
    rw [State.readScreen_of_open above open_ running]
    refine ⟨_, _, rfl, State.serveScreen_serves q _ rfl rfl rfl rfl rfl, rfl, rfl, rfl, fun g open' running' => ?_,
      fun expired => ?_, fun d other => screens _ d other, rfl, rfl, rfl, rfl, rfl, rfl⟩
    · obtain rfl := Option.some.inj (open_.symm.trans open')
      refine ⟨rfl, rfl, rfl, rfl, rfl, fun ends he => ?_⟩
      subst he
      exact modAt_get_self ..
    · cases running.symm.trans (expired f open_)
  · have expired (f : ScreenFrame) (open_ : (s.screen c).frame = some f) : f.expired = true :=
      Bool.eq_true_of_not_eq_false fun running => joins ⟨f, open_, running⟩
    rw [State.readScreen_of_unlatched above expired]
    refine ⟨_, _, rfl, State.serveScreen_serves q _ rfl rfl rfl ?_ ?_, rfl, rfl, rfl, fun f open_ running => ?_,
      fun _ => ⟨?_, ?_, rfl, ScreenRead.uses_usedSlots _ _, rfl, modAt_get_self ..⟩, fun d other => screens _ d other, rfl, rfl, rfl,
      rfl, rfl, rfl⟩
    · exact (s.pool.pinAll_frame _).1
    · exact (s.pool.pinAll_frame _).2
    · cases running.symm.trans (expired f open_)
    · cases (s.screen c).kept <;> rfl
    · cases (s.screen c).kept <;> rfl

end Sys2Proof.Machine
end

section
/-! PROOFS. The latch of a screen frame (R106 to R110, R113) and the generated views (R131 to R140). -/

namespace Sys2Proof.Machine

/-! ### The CURRENT slot, and the overlay code of a pane (R50, R108) -/

theorem SlotPool.currentOf_eq_none {p : SlotPool} {i : Fin 16} (none_ : p.currentOf i = none) {n : Nat} {x : Slot}
    (found : p.slots[n]? = some x) : ¬(x.life = .current ∧ x.owner = some i) := fun current => by
  have := List.findIdx?_eq_none_iff.1 none_ x (List.mem_of_getElem? found)
  exact of_decide_eq_false this current

/-- The CURRENT slot is found by the lifecycles and the owning streams alone. -/
theorem SlotPool.currentOf_congr {p p' : SlotPool} {i : Fin 16}
    (same : ∀ n : Nat, (p'.slots[n]?).map (fun x => decide (x.life = .current ∧ x.owner = some i))
      = (p.slots[n]?).map (fun x => decide (x.life = .current ∧ x.owner = some i))) : p'.currentOf i = p.currentOf i := by
  have marks : p'.slots.map (fun x => decide (x.life = .current ∧ x.owner = some i))
      = p.slots.map (fun x => decide (x.life = .current ∧ x.owner = some i)) :=
    List.ext_getElem? fun n => by rw [List.getElem?_map, List.getElem?_map, same]
  have found (l : List Slot) : l.findIdx? (fun x => decide (x.life = .current ∧ x.owner = some i))
      = (l.map fun x => decide (x.life = .current ∧ x.owner = some i)).findIdx? id := by
    rw [List.findIdx?_map]
    rfl
  rw [SlotPool.currentOf, found, marks, ← found, SlotPool.currentOf]

theorem SlotPool.update_currentOf {p : SlotPool} {i : Fin 16} {n : Nat} {f : Slot → Slot}
    (kept : ∀ x, ((f x).life = .current ∧ (f x).owner = some i) ↔ (x.life = .current ∧ x.owner = some i)) :
    (p.update n f).currentOf i = p.currentOf i := by
  refine SlotPool.currentOf_congr fun m => ?_
  rw [p.update_slots]
  split
  · rw [Option.map_map]
    exact congrArg (fun g => Option.map g p.slots[m]?) (funext fun x => decide_eq_decide.2 (kept x))
  · rfl

theorem SlotPool.pin_currentOf (p : SlotPool) (n : Nat) (i : Fin 16) : (p.pin n).currentOf i = p.currentOf i :=
  SlotPool.update_currentOf fun _ => Iff.rfl

/-- The last unpin moves a RETIRED slot, never a CURRENT one. -/
theorem SlotPool.unpin_currentOf (p : SlotPool) (n : Nat) (i : Fin 16) : (p.unpin n).currentOf i = p.currentOf i := by
  refine SlotPool.update_currentOf fun x => and_congr_left fun _ => ?_
  show (if x.pins - 1 = 0 ∧ x.life = .retired then Life.free else x.life) = .current ↔ x.life = .current
  split
  · rename_i retired
    exact iff_of_false (by decide) (by rw [retired.2]; decide)
  · rfl

theorem SlotPool.pinAll_currentOf (p : SlotPool) (l : List Nat) (i : Fin 16) : (p.pinAll l).currentOf i = p.currentOf i := by
  unfold SlotPool.pinAll
  induction l generalizing p with
  | nil => rfl
  | cons n l ih => exact (ih (p.pin n)).trans (p.pin_currentOf n i)

theorem SlotPool.unpinAll_currentOf (p : SlotPool) (l : List Nat) (i : Fin 16) : (p.unpinAll l).currentOf i = p.currentOf i := by
  unfold SlotPool.unpinAll
  induction l generalizing p with
  | nil => rfl
  | cons n l ih => exact (ih (p.unpin n)).trans (p.unpin_currentOf n i)

/-- The first test of R108: there is nothing to show. -/
def State.blank (s : State) (p : Pane) : Prop :=
  (s.stream p.stream).cfg.enabled = false ∨ (s.stream p.stream).cap.freshness = .noSignal
    ∨ s.pool.currentOf p.stream = none
    ∨ ¬(p.sx + p.sw ≤ (s.stream p.stream).cfg.w ∧ p.sy + p.sh ≤ (s.stream p.stream).cfg.h)

theorem State.overlayOf_of_blank {s : State} {p : Pane} (blank : s.blank p) : s.overlayOf p = .noSignal := by
  refine if_pos ?_
  simp only [Bool.or_eq_true, Bool.not_eq_true', decide_eq_true_eq, Option.isNone_iff_eq_none]
  rcases blank with off | silent | none_ | outside
  · exact .inl (.inl (.inl off))
  · exact .inl (.inl (.inr silent))
  · exact .inl (.inr none_)
  · exact .inr (by omega)

/-- The other tests, in order. -/
theorem State.overlayOf_of_shown {s : State} {p : Pane} (shown : ¬s.blank p) : s.overlayOf p =
    if (s.stream p.stream).cap.freshness = .stale then .stale
    else if p.badge && decide ((s.stream p.stream).lens.state = .soiled) then .badgeSoiled
    else if p.badge && decide ((s.stream p.stream).lens.state = .suspect) && s.evals.soiling.badge then .badgeSuspect
    else .none := by
  refine if_neg fun h => shown ?_
  simp only [Bool.or_eq_true, Bool.not_eq_true', decide_eq_true_eq, Option.isNone_iff_eq_none] at h
  rcases h with ((off | silent) | none_) | outside
  · exact .inl off
  · exact .inr (.inl silent)
  · exact .inr (.inr (.inl none_))
  · exact .inr (.inr (.inr (by omega)))

/-! ### The view a latch takes (R106, R107) -/

/-- A view depends on the lines, the streams, the stored layouts, and the size and the requested layout of the screen. -/
theorem State.latchView_congr {s u : State} {c : Fin 2} (lines : u.lines = s.lines) (streams : u.streams = s.streams)
    (layouts : u.comp.layouts = s.comp.layouts) (w : (u.screen c).w = (s.screen c).w) (h : (u.screen c).h = (s.screen c).h)
    (requested : (u.screen c).requested = (s.screen c).requested) : u.latchView c = s.latchView c := by
  have shown : u.shownStreams c = s.shownStreams c := by
    unfold State.shownStreams
    simp only [lines, streams]
  have stream (i : Fin 16) : u.stream i = s.stream i := by unfold State.stream; rw [streams]
  have door : u.doorView c = s.doorView c := by
    unfold State.doorView
    simp only [shown, layouts, w, h, stream]
  have trailing : u.trailingStream = s.trailingStream := by
    unfold State.trailingStream
    rw [lines, streams]
  have reverse : u.reverseView c = s.reverseView c := by
    unfold State.reverseView
    simp only [trailing, w, h, stream]
  have layout : u.comp.layouts[(u.screen c).requested] = s.comp.layouts[(s.screen c).requested] := by
    simp only [layouts, requested]
  unfold State.latchView
  rw [lines, door, reverse, layout]

theorem State.resolvePane_congr {s u : State} (streams : u.streams = s.streams) (evals : u.evals = s.evals)
    (current : ∀ i, u.pool.currentOf i = s.pool.currentOf i) : u.resolvePane = s.resolvePane := by
  funext p
  have stream (i : Fin 16) : u.stream i = s.stream i := by unfold State.stream; rw [streams]
  unfold State.resolvePane State.overlayOf
  simp only [stream, current, evals]

/-! ### The restart and the latch (R106 to R110, R113) -/

section Latch
variable {s : State} {c : Fin 2}

/-- Screen c with no frame and its record x otherwise: the reads in `carried` stand unlatched with their pins, and the pins
of the slots in `ended` are dropped. -/
def State.restarted (s : State) (c : Fin 2) (carried : List ReadTxn) (ended : List Nat) (x : Screen) : State := { s with
  transit := { s.transit with reads := s.transit.reads.map (fun y => if y ∈ carried then y.carryOver else y) }
  pool := (s.pool.pinAll (carried.flatMap (fun y => y.carryOver.pins))).unpinAll ended
  comp := { s.comp with screens := modAt s.comp.screens c (fun _ => { x with frame := none }) } }

theorem State.restartFrame_of_none (none_ : (s.screen c).frame = none) :
    s.restartFrame c = s.restarted c [] [] (s.screen c) := by
  have same : s.restartFrame c = s := by
    unfold State.restartFrame
    rw [none_]
  have screen : modAt s.comp.screens c (fun _ => { s.screen c with frame := none }) = s.comp.screens :=
    modAt_same _ _ _ (by rw [← none_]; rfl)
  have reads : s.transit.reads.map (fun y => if y ∈ ([] : List ReadTxn) then y.carryOver else y) = s.transit.reads :=
    (List.map_congr_left fun y _ => if_neg List.not_mem_nil).trans (List.map_id _)
  rw [same, State.restarted, screen, reads]
  rfl

theorem State.restartFrame_of_some {f : ScreenFrame} (open_ : (s.screen c).frame = some f) : s.restartFrame c
    = s.restarted c (s.transit.reads.filter (ReadTxn.inFrame c)) (f.panes.filterMap ViewPane.slot) { s.screen c with
        unlatched := (s.screen c).unlatched + (s.transit.reads.filter (ReadTxn.inFrame c)).length
        restarts := min 65535 ((s.screen c).restarts + 1) } := by
  have reads : s.transit.reads.map (fun y => if y ∈ s.transit.reads.filter (ReadTxn.inFrame c) then y.carryOver else y)
      = s.transit.reads.map fun y => if y.inFrame c = true then y.carryOver else y :=
    List.map_congr_left fun y mem => if_congr (by simp [mem]) rfl rfl
  have pins : s.pool.pinAll ((s.transit.reads.filter (ReadTxn.inFrame c)).flatMap (fun y => y.carryOver.pins))
      = (s.transit.reads.filter (ReadTxn.inFrame c)).foldl (fun p x => p.pinAll x.carryOver.pins) s.pool := List.foldl_flatMap
  have record : modAt s.comp.screens c (fun x => { x with
        frame := none
        unlatched := x.unlatched + (s.transit.reads.filter (ReadTxn.inFrame c)).length
        restarts := satAdd top16 x.restarts 1 })
      = modAt s.comp.screens c fun _ => { s.screen c with
        frame := none
        unlatched := (s.screen c).unlatched + (s.transit.reads.filter (ReadTxn.inFrame c)).length
        restarts := min 65535 ((s.screen c).restarts + 1) } := modAt_congr _ _ _ _ rfl
  unfold State.restartFrame State.restarted
  rw [open_, reads, pins, ← record]
  rfl

/-- The frame a latch opens, before its first read. -/
def State.openedFrame (s : State) (c : Fin 2) : ScreenFrame where
  expired := false
  kind := (s.latchView c).kind
  layout := if (s.latchView c).kind = .requested then some (s.screen c).requested else none
  bg := (s.latchView c).bg
  panes := s.fixPanes (s.latchView c).panes
  latched := s.time
  endSeen := false
  inFlight := 0
  accepted := 0
  timer := some (s.time + BitVec.ofNat 32 (s.screen c).timeout)

theorem State.latch_eq (s : State) (c : Fin 2) : s.latch c = { s with
    pool := s.pool.pinAll ((s.fixPanes (s.latchView c).panes).filterMap ViewPane.slot)
    notices := if (s.latchView c).kind = (s.screen c).prevKind then s.notices
      else s.notices.take s.time .viewChange c.val (s.latchView c).kind.code
    comp := { s.comp with screens := modAt s.comp.screens c (fun x => { x with
      frame := some (s.openedFrame c)
      kept := some (s.latchView c)
      prevKind := (s.latchView c).kind
      latches := min 4294967295 (x.latches + 1) }) } } := by
  unfold State.latch
  dsimp only
  rw [State.viewAtLatch_eq]
  split <;> rfl

theorem State.latch_frame (s : State) (c : Fin 2) : ((s.latch c).screen c).frame = some (s.openedFrame c) := by
  rw [State.latch_eq, State.screen]
  dsimp only
  rw [modAt_get_self]

theorem State.latch_rest (s : State) (c : Fin 2) : (s.latch c).transit = s.transit ∧ (s.latch c).streams = s.streams
    ∧ (s.latch c).evals = s.evals ∧ (s.latch c).lines = s.lines ∧ (s.latch c).holds = s.holds ∧ (s.latch c).port = s.port := by
  rw [State.latch_eq]
  exact ⟨rfl, rfl, rfl, rfl, rfl, rfl⟩

theorem State.latch_screens (s : State) (c : Fin 2) : (s.latch c).comp.screens = modAt s.comp.screens c (fun x => { x with
    frame := some (s.openedFrame c)
    kept := some (s.latchView c)
    prevKind := (s.latchView c).kind
    latches := min 4294967295 (x.latches + 1) }) := by
  rw [State.latch_eq]

/-- A read at offset 0 ends the frame that is there, latches one, and belongs to it (R105). -/
theorem State.readScreen_zero (s : State) (c : Fin 2) (q : ReadReq) : s.readScreen c q 0
    = ((s.restartFrame c).latch c).serveLatched c ((s.restartFrame c).openedFrame c) q 0 := by
  unfold State.readScreen
  rw [if_pos rfl]
  dsimp only
  rw [State.latch_frame]

theorem State.restarted_fixPanes {carried : List ReadTxn} {ended : List Nat} {x : Screen} (ps : List Pane) :
    (s.restarted c carried ended x).fixPanes ps = s.fixPanes ps := by
  rw [← State.map_resolvePane, ← State.map_resolvePane, State.resolvePane_congr (s := s) (u := s.restarted c carried ended x) rfl rfl
    fun i => (SlotPool.unpinAll_currentOf _ ended i).trans (SlotPool.pinAll_currentOf _ _ i)]

section Restarted
variable {carried : List ReadTxn} {ended : List Nat} {x : Screen} {v : KeptView} {panes : List ViewPane}

theorem State.restarted_screen : (s.restarted c carried ended x).screen c = { x with frame := none } := modAt_get_self ..

variable (w : x.w = (s.screen c).w) (h : x.h = (s.screen c).h) (requested : x.requested = (s.screen c).requested)
include w h requested

theorem State.restarted_latchView : (s.restarted c carried ended x).latchView c = s.latchView c :=
  State.latchView_congr rfl rfl rfl (by rw [State.restarted_screen]; exact w) (by rw [State.restarted_screen]; exact h)
    (by rw [State.restarted_screen]; exact requested)

theorem State.restarted_openedFrame (view : v = s.latchView c) (fixed : panes = s.fixPanes v.panes) :
    (s.restarted c carried ended x).openedFrame c = {
      expired := false
      kind := v.kind
      layout := if v.kind = .requested then some x.requested else none
      bg := v.bg
      panes := panes
      latched := s.time
      endSeen := false
      inFlight := 0
      accepted := 0
      timer := some (s.time + BitVec.ofNat 32 x.timeout) } := by
  unfold State.openedFrame
  rw [State.restarted_latchView w h requested, ← view, State.restarted_fixPanes, ← fixed, State.restarted_screen]
  rfl

theorem State.restarted_latch_screen (view : v = s.latchView c) : ((s.restarted c carried ended x).latch c).screen c = { x with
    frame := some ((s.restarted c carried ended x).openedFrame c)
    kept := some v
    prevKind := v.kind
    latches := min 4294967295 (x.latches + 1) } := by
  rw [State.screen, State.latch_screens, modAt_get_self, State.restarted_latchView w h requested, ← view]
  exact congrArg (fun y : Screen => { y with
    frame := some ((s.restarted c carried ended x).openedFrame c)
    kept := some v
    prevKind := v.kind
    latches := min 4294967295 (y.latches + 1) }) State.restarted_screen

/-- What the latch of a restarted state leaves beside screen c. -/
theorem State.restarted_latch_frame (prevKind : x.prevKind = (s.screen c).prevKind) (view : v = s.latchView c)
    (fixed : panes = s.fixPanes v.panes) :
    ((s.restarted c carried ended x).latch c).pool = (s.restarted c carried ended x).pool.pinAll (panes.filterMap ViewPane.slot)
      ∧ ((s.restarted c carried ended x).latch c).notices = (if v.kind = (s.screen c).prevKind then s.notices
        else s.notices.take s.time .viewChange c.val v.kind.code)
      ∧ ∀ d, d ≠ c → ((s.restarted c carried ended x).latch c).screen d = s.screen d := by
  refine ⟨?_, ?_, fun d other => ?_⟩
  · rw [State.latch_eq, State.restarted_latchView w h requested, ← view, State.restarted_fixPanes, ← fixed]
  · rw [State.latch_eq, State.restarted_latchView w h requested, ← view, State.restarted_screen, ← prevKind]
    rfl
  · rw [State.screen, State.latch_screens, modAt_get_other _ _ _ _ other.symm]
    exact modAt_get_other _ _ _ _ other.symm

end Restarted

/-- Sixteen beats do not reach the end of a screen of more than 64 pixels. -/
theorem not_coversEnd {x : Screen} {beats : Nat} (few : beats ≤ 16) (large : 64 < x.w * x.h) : coversEnd x 0 beats = false := by
  refine decide_eq_false fun ⟨_, reaches⟩ => ?_
  have : 4 * x.w * x.h = 4 * (x.w * x.h) := Nat.mul_assoc ..
  omega

end Latch

/-- The three clauses of a read carried over by a restart: whether it was in the frame, and what it becomes (R113). -/
theorem ReadTxn.inFrame_iff (c : Fin 2) (y : ReadTxn) :
    y.inFrame c = true ↔ ∃ r, y.service = .screen r ∧ r.screen = c ∧ r.latched = true := by
  unfold ReadTxn.inFrame
  cases y.service <;> simp

theorem ReadTxn.carryOver_eq {y : ReadTxn} {r : ScreenRead} (service : y.service = .screen r) : y.carryOver
    = { y with service := .screen { r with latched := false, pins := usedSlots r.panes (r.sources y.req.beats) } } := by
  simp only [ReadTxn.carryOver, service]

/-- Settles O16: the frame that is there is ended, the view of the restarted state is that of the state, and the read joins the
frame just latched. -/
theorem latchFixesTheFrame : Obligations.LatchFixesTheFrame := by
  refine ⟨?_, fun c y => ⟨y.inFrame_iff c, fun r service => ⟨_, r.uses_usedSlots y.req.beats, ?_, ReadTxn.carryOver_eq service⟩⟩,
    fun s p st blank hst hblank => ?_, fun pool i => ⟨fun n => SlotPool.currentOf_eq_some, fun none_ n x =>
      SlotPool.currentOf_eq_none none_⟩⟩
  · intro s q c v panes carried ended x wf admitted active decoded large hv hpanes hnone hsome
    have few : q.beats ≤ 16 := (of_decide_eq_true wf).2
    have restarted : s.restartFrame c = s.restarted c carried ended x
        ∧ x.w = (s.screen c).w ∧ x.h = (s.screen c).h ∧ x.requested = (s.screen c).requested ∧ x.prevKind = (s.screen c).prevKind
          ∧ x.timeout = (s.screen c).timeout := by
      cases open_ : (s.screen c).frame with
      | none =>
        obtain ⟨rfl, rfl, rfl⟩ := hnone open_
        exact ⟨State.restartFrame_of_none open_, rfl, rfl, rfl, rfl, rfl⟩
      | some f =>
        obtain ⟨rfl, rfl, rfl⟩ := hsome f open_
        exact ⟨State.restartFrame_of_some open_, rfl, rfl, rfl, rfl, rfl⟩
    obtain ⟨restarted, w, h, requested, prevKind, timeout⟩ := restarted
    have opened := State.restarted_openedFrame (carried := carried) (ended := ended) w h requested hv hpanes
    have latched := State.restarted_latch_screen (carried := carried) (ended := ended) w h requested hv
    have unended : coversEnd (((s.restarted c carried ended x).latch c).screen c) 0 q.beats = false := by
      rw [latched]
      exact not_coversEnd few (by rw [w, h]; exact large)
    obtain ⟨pool, notices, others⟩ := State.restarted_latch_frame (carried := carried) (ended := ended) w h requested prevKind hv
      hpanes
    obtain ⟨transit, streams, evals, lines, holds, port⟩ := (s.restarted c carried ended x).latch_rest c
    obtain ⟨base, size⟩ := (s.restarted c carried ended x).pool.pinAll_frame (panes.filterMap ViewPane.slot)
    obtain ⟨pinnedBase, pinnedSize⟩ := s.pool.pinAll_frame (carried.flatMap (fun y => y.carryOver.pins))
    obtain ⟨-, endedBase, -, endedSize, -⟩ :=
      (s.pool.pinAll (carried.flatMap (fun y => y.carryOver.pins))).unpinAll_frame ended
    rw [exec_screenRead wf admitted active decoded, State.readScreen_zero, restarted]
    refine ⟨_, _, rfl, ?_, fun d other => (modAt_get_other _ _ _ _ other.symm).trans (others d other), pool, notices,
      State.serveScreen_serves q _ ((congrArg Transit.reads transit).trans rfl) ((congrArg Transit.nextKey transit).trans rfl)
      ((congrArg Transit.downWaiting transit).trans rfl) (((congrArg SlotPool.base pool).trans base).trans (endedBase.trans pinnedBase))
      (((congrArg SlotPool.size pool).trans size).trans (endedSize.trans pinnedSize)), rfl, rfl,
      (congrArg Screen.w latched).trans w, congrArg ScreenFrame.bg opened, congrArg ScreenFrame.panes opened, rfl, rfl,
      streams, evals, lines, holds, port⟩
    refine (modAt_get_self ..).trans ?_
    rw [unended, opened]
    exact congrArg (fun y : Screen => { y with frame := (x.Latched v panes s.time).frame }) latched
  · rw [ReadTxn.carryOver_eq service]
    rfl
  · subst hst
    have hblank : blank = s.blank p := hblank
    subst hblank
    refine ⟨State.overlayOf_of_blank, fun shown stale => ?_, fun shown live => ⟨fun badge soiled => ?_,
      fun badge suspect enabled => ?_, fun none_ => ?_⟩⟩
    · rw [State.overlayOf_of_shown shown, if_pos stale]
    · rw [State.overlayOf_of_shown shown, live]
      simp [badge, soiled]
    · rw [State.overlayOf_of_shown shown, live]
      simp [badge, suspect, enabled]
    · rw [State.overlayOf_of_shown shown, live]
      rcases none_ with off | clean | learning | ⟨suspect, off⟩
      · simp [off]
      · simp [clean]
      · simp [learning]
      · simp [suspect, off]

end Sys2Proof.Machine
end

section
/-! PROOFS. What the screens show of the doors and the reverse view (R131 to R140), and the view of a latch (R106, R135):
obligation O18. -/

namespace Sys2Proof.Machine

/-! ### Sides and views of the line monitor -/

section Lines
variable {m : LineMonitor} {c c' : Fin 2}

theorem sideOf_eq_zero_iff (d : Fin 12) : sideOf d = 0 ↔ d.val ≤ 5 := by
  unfold sideOf
  split <;> simp <;> omega

theorem other_eq_of_ne (distinct : c' ≠ c) : other c = c' := by
  unfold other
  split <;> omega

theorem LineMonitor.mem_openDoors {d : Fin 12} : d ∈ m.openDoors ↔ m.doorOpen d = true := by
  simp [LineMonitor.openDoors]

theorem LineMonitor.openDoors_pairwise (m : LineMonitor) : m.openDoors.Pairwise (· < ·) :=
  (List.pairwise_lt_finRange 12).filter _

theorem LineMonitor.sideOpen_iff {x : Fin 2} : m.sideOpen x = true ↔ ∃ d, sideOf d = x ∧ m.doorOpen d = true := by
  simp only [LineMonitor.sideOpen, List.any_eq_true, LineMonitor.mem_openDoors, decide_eq_true_eq]
  exact exists_congr fun d => and_comm

theorem LineMonitor.doorViewActive_iff : m.doorViewActive c = true ↔ m.doorEnable = true
    ∧ ((∃ d, sideOf d = m.shownSide c ∧ m.doorOpen d = true) ∨ m.sides[m.shownSide c].timer ≠ none) := by
  simp only [LineMonitor.doorViewActive, Bool.and_eq_true, Bool.or_eq_true, LineMonitor.sideOpen_iff, Option.isSome_iff_ne_none]

theorem LineMonitor.reversePlacement_eq_some (distinct : c' ≠ c) : m.reversePlacement = some c ↔ m.reverseActive = true
    ∧ m.doorViewActive c = false ∧ (m.preferred = c ∨ m.doorViewActive c' = true) := by
  unfold LineMonitor.reversePlacement
  by_cases preferred : m.preferred = c
  · rw [preferred, other_eq_of_ne distinct]
    cases m.reverseActive <;> cases m.doorViewActive c <;> cases m.doorViewActive c' <;> simp [distinct]
  · have preferred' : m.preferred = c' := by omega
    rw [preferred', other_eq_of_ne distinct.symm]
    cases m.reverseActive <;> cases m.doorViewActive c <;> cases m.doorViewActive c' <;> simp [distinct]

theorem LineMonitor.reverseIsHidden_iff (distinct : c' ≠ c) : m.reverseIsHidden = true ↔ m.reverseActive = true
    ∧ m.doorViewActive c = true ∧ m.doorViewActive c' = true := by
  unfold LineMonitor.reverseIsHidden LineMonitor.reversePlacement
  by_cases preferred : m.preferred = c
  · rw [preferred, other_eq_of_ne distinct]
    cases m.reverseActive <;> cases m.doorViewActive c <;> cases m.doorViewActive c' <;> simp
  · have preferred' : m.preferred = c' := by omega
    rw [preferred', other_eq_of_ne distinct.symm]
    cases m.reverseActive <;> cases m.doorViewActive c <;> cases m.doorViewActive c' <;> simp

end Lines

/-! ### The streams of doors and roles -/

section Views
variable {s : State} {c : Fin 2}

theorem State.enabledDoorStream_doorStreams (s : State) : s.DoorStreams (enabledDoorStream s.streams) := by
  refine ⟨fun n i found => ?_, fun n none_ i => ?_⟩
  · simpa [State.stream] using List.find?_some found
  · simpa [State.stream] using List.find?_eq_none.1 none_ i (List.mem_finRange i)

theorem State.DoorStreams.eq_some {f : Nat → Option (Fin 16)} (streams : s.DoorStreams f) {n : Nat} {i : Fin 16}
    (role : (s.stream i).cfg.role = .door) (door : (s.stream i).cfg.door = n) (enabled : (s.stream i).cfg.enabled = true)
    (only : ∀ j, (s.stream j).cfg.role = .door → (s.stream j).cfg.door = n → j = i) : f n = some i := by
  cases found : f n with
  | none => exact absurd ⟨role, door, enabled⟩ (streams.2 n found i)
  | some j =>
    obtain ⟨role', door', -⟩ := streams.1 n j found
    rw [only j role' door']

theorem roleStream_eq_none {role : Role} (none_ : ∀ i, (s.stream i).cfg.role ≠ role) : roleStream s.streams role = none :=
  List.find?_eq_none.2 fun i _ => by simpa [State.stream] using none_ i

theorem roleStream_eq_some {role : Role} {i : Fin 16} (only : ∀ j, (s.stream j).cfg.role = role ↔ j = i) :
    roleStream s.streams role = some i := by
  cases found : roleStream s.streams role with
  | none => exact absurd ((only i).2 rfl) (by simpa [State.stream] using List.find?_eq_none.1 found i (List.mem_finRange i))
  | some j =>
    have holds : (s.stream j).cfg.role = role := by simpa [State.stream] using List.find?_some found
    rw [(only j).1 holds]

/-! ### The doors shown -/

/-- The numbers of the doors a side shows, in ascending order (R135). -/
def LineMonitor.shownDoors (m : LineMonitor) (x : Fin 2) : List Nat :=
  if m.sideOpen x = true then (m.openDoors.filter (fun d => decide (sideOf d = x))).map Fin.val else m.sides[x].kept

theorem State.shownStreams_eq (s : State) (c : Fin 2) : s.shownStreams c
    = (if s.lines.lines[(12 : Fin 15)].debounced = true then (s.lines.shownDoors (s.lines.shownSide c)).reverse
      else s.lines.shownDoors (s.lines.shownSide c)).filterMap (enabledDoorStream s.streams) := rfl

theorem LineMonitor.mem_shownDoors {m : LineMonitor} {x : Fin 2} {n : Nat} : n ∈ m.shownDoors x
    ↔ (∃ d : Fin 12, d.val = n ∧ sideOf d = x ∧ m.doorOpen d = true)
      ∨ (∀ d : Fin 12, sideOf d = x → m.doorOpen d = false) ∧ n ∈ m.sides[x].kept := by
  have closed : m.sideOpen x = false ↔ ∀ d : Fin 12, sideOf d = x → m.doorOpen d = false := by
    rw [← Bool.not_eq_true, LineMonitor.sideOpen_iff]
    simp
  unfold LineMonitor.shownDoors
  cases open_ : m.sideOpen x with
  | true =>
    obtain ⟨d, side, opened⟩ := LineMonitor.sideOpen_iff.1 open_
    have notClosed : ¬∀ d : Fin 12, sideOf d = x → m.doorOpen d = false := fun all => by simp [all d side] at opened
    simp only [notClosed, false_and, or_false, if_true, List.mem_map, List.mem_filter, LineMonitor.mem_openDoors, decide_eq_true_eq]
    exact exists_congr fun d => by tauto
  | false =>
    have all := closed.1 open_
    have none_ : ¬∃ d : Fin 12, d.val = n ∧ sideOf d = x ∧ m.doorOpen d = true := fun ⟨d, _, side, opened⟩ => by
      simp [all d side] at opened
    simp only [none_, false_or, Bool.false_eq_true, if_false]
    exact ⟨fun mem => ⟨all, mem⟩, And.right⟩

theorem LineMonitor.shownDoors_pairwise {m : LineMonitor} {x : Fin 2} (kept : m.sides[x].kept.Pairwise (fun a b => a < b)) :
    (m.shownDoors x).Pairwise (fun a b => a < b) := by
  unfold LineMonitor.shownDoors
  split
  · exact List.pairwise_map.2 ((m.openDoors_pairwise.filter _).imp fun less => less)
  · exact kept

theorem LineMonitor.mem_shownDoors_of_open {m : LineMonitor} {d : Fin 12} (opened : m.doorOpen d = true) :
    d.val ∈ m.shownDoors (sideOf d) :=
  LineMonitor.mem_shownDoors.2 (Or.inl ⟨d, rfl, rfl, opened⟩)

theorem State.mem_shownStreams {i : Fin 16} : i ∈ s.shownStreams c
    ↔ ∃ n ∈ s.lines.shownDoors (s.lines.shownSide c), enabledDoorStream s.streams n = some i := by
  rw [State.shownStreams_eq, List.mem_filterMap]
  split <;> simp

/-! ### The views -/

theorem State.doorView_eq (s : State) (c : Fin 2) {shown : List (Fin 16)} (eq : shown = s.shownStreams c) : s.doorView c = {
    kind := .door
    bg := if shown = [] then s.comp.layouts[(0 : Fin 16)].bg else ⟨0, 0, 0⟩
    panes := shown.zipIdx.map (fun y => cellPane (s.screen c).w (s.screen c).h (gridOf shown.length).1
      (gridOf shown.length).2 y.2 y.1 (s.stream y.1).cfg) } := by
  subst eq
  unfold State.doorView
  simp only [List.length_eq_zero_iff]
  rfl

/-- Every shown stream has a pane. -/
theorem State.exists_pane_of_mem_shownStreams {i : Fin 16} (shown : i ∈ s.shownStreams c) :
    ∃ p ∈ (s.doorView c).panes, p.stream = i := by
  rw [State.doorView_eq s c rfl]
  obtain ⟨k, hk, rfl⟩ := List.mem_iff_getElem.1 shown
  exact ⟨_, List.mem_map_of_mem (List.mk_mem_zipIdx_iff_getElem?.2 (List.getElem?_eq_getElem hk)), rfl⟩

theorem State.restartFrame_latchView (s : State) (c : Fin 2) : (s.restartFrame c).latchView c = s.latchView c := by
  cases open_ : (s.screen c).frame with
  | none =>
    rw [State.restartFrame_of_none open_]
    exact State.restarted_latchView rfl rfl rfl
  | some f =>
    rw [State.restartFrame_of_some open_]
    exact State.restarted_latchView rfl rfl rfl

end Views

/-- Settles O18: the doors a side shows are the sorted list with the stated members, so the view of a latch with an open door
has a pane of its stream. -/
theorem openDoorIsAlwaysShown : Obligations.OpenDoorIsAlwaysShown := by
  refine ⟨?_, fun m c c' distinct => ⟨fun d => ⟨sideOf_eq_zero_iff d, rfl⟩, ?_, LineMonitor.doorViewActive_iff,
    by simp [LineMonitor.reverseActive, LineMonitor.reversing], LineMonitor.reversePlacement_eq_some distinct,
    LineMonitor.reverseIsHidden_iff distinct⟩, fun s c x side => ⟨fun doors sorted kept member =>
      ⟨_, s.enabledDoorStream_doorStreams, fun shown eq => State.doorView_eq s c ?_⟩,
      fun role eq => ⟨fun none_ => ?_, fun i only => ?_⟩⟩⟩
  · intro s q c d i wf admitted active decoded doorEnable opened side role door enabled only
    have view : s.latchView c = s.doorView c :=
      if_pos (LineMonitor.doorViewActive_iff.2 ⟨doorEnable, Or.inl ⟨d, side, opened⟩⟩)
    have shown : i ∈ s.shownStreams c := State.mem_shownStreams.2
      ⟨d.val, side ▸ LineMonitor.mem_shownDoors_of_open opened,
        s.enabledDoorStream_doorStreams.eq_some role door enabled only⟩
    obtain ⟨p, mem, stream⟩ := State.exists_pane_of_mem_shownStreams shown
    have latched : (s.restartFrame c).latchView c = s.doorView c := (State.restartFrame_latchView s c).trans view
    have fixed : ((s.restartFrame c).openedFrame c).panes = (s.doorView c).panes.map (s.restartFrame c).resolvePane := by
      rw [State.map_resolvePane, ← latched]
      rfl
    rw [exec_screenRead wf admitted active decoded, State.readScreen_zero]
    refine ⟨_, _, rfl, congrArg Screen.frame (modAt_get_self ..), congrArg KeptView.kind latched, (s.restartFrame c).resolvePane p, ?_,
      stream⟩
    exact fixed ▸ List.mem_map_of_mem mem
  · unfold LineMonitor.shownSide
    rw [other_eq_of_ne distinct]
    rfl
  · subst side
    have doors_eq : doors = s.lines.shownDoors (s.lines.shownSide c) :=
      sorted.eq_of_mem_iff (LineMonitor.shownDoors_pairwise kept) fun n => (member n).trans LineMonitor.mem_shownDoors.symm
    rw [State.shownStreams_eq, ← doors_eq]
    exact eq
  · have trailing : s.trailingStream = none := roleStream_eq_none fun i => eq ▸ none_ i
    unfold State.reverseView
    rw [trailing] <;> rfl
  · have trailing : s.trailingStream = some i := roleStream_eq_some fun j => eq ▸ only j
    unfold State.reverseView
    rw [trailing] <;> rfl

end Sys2Proof.Machine
end

section
/-! PROOFS. The completion event of an evaluation (R73, R79, R80, R88, R93, R182): obligation O25. -/

namespace Sys2Proof.Machine

section Completion
variable {s : State} {x : InEvaluation}

theorem Evaluator.begin_idle (e : Evaluator) : Evaluator.begin { e with current := none } = match e.queue with
    | [] => { e with current := none }
    | r :: rest => { e with current := some ⟨r, false⟩, queue := rest } := by
  unfold Evaluator.begin
  cases e.queue <;> rfl

/-- The outcome of an evaluation at its stream, with the notice of a changed lens state (R80, R88). -/
theorem State.applyEvaluation_eq (s : State) (r : FrameRecord) {st : Stream}
    (outcome : st = (s.stream r.stream).evaluated s.evals.soiling r) : s.applyEvaluation r = { s with
      streams := modAt s.streams r.stream (fun _ => st)
      notices := if st.lens.state = (s.stream r.stream).lens.state then s.notices
        else s.notices.take s.time .lensChange r.stream.val (512 * st.lens.state.code + st.lens.fraction) } := by
  subst outcome
  unfold State.applyEvaluation
  dsimp only
  split <;> rfl

/-- The state after the outcome of x, with the engine at the next record. -/
def State.outcomeApplied (s : State) (x : InEvaluation) : State :=
  (if x.discard = true then s else s.applyEvaluation x.frame).modEvals fun e => Evaluator.begin { e with current := none }

/-- The completion is the outcome, and the snapshot of a dump that waits for it: the record that begins does not matter to it. -/
theorem State.completeEvaluation_of_some (current : s.evals.current = some x) :
    s.completeEvaluation = (s.outcomeApplied x).dumpResume x.frame.stream := by
  unfold State.completeEvaluation State.outcomeApplied
  rw [current]
  exact (State.modEvals_dumpResume _ Evaluator.begin x.frame.stream).symm

theorem State.outcomeApplied_frame (s : State) (x : InEvaluation) :
    (s.outcomeApplied x).transit = s.transit ∧ (s.outcomeApplied x).port = s.port := by
  unfold State.outcomeApplied
  split
  · exact ⟨rfl, rfl⟩
  · rw [State.applyEvaluation_eq s x.frame rfl]
    exact ⟨rfl, rfl⟩

theorem State.dumpResume_of_not_waiting {i : Fin 16}
    (not_waiting : ∀ d, s.port.dump = some d → d.snapshot ≠ none ∨ d.stream ≠ i) : s.dumpResume i = s := by
  unfold State.dumpResume
  cases dump : s.port.dump with
  | none => rfl
  | some d =>
    refine if_neg fun ⟨stream, waits⟩ => ?_
    exact (not_waiting d dump).elim (absurd waits) (absurd stream)

theorem State.dumpResume_of_waiting {d : Dump} (dump : s.port.dump = some d) (waits : d.snapshot = none) :
    s.dumpResume d.stream = s.dumpSnapshot d := by
  unfold State.dumpResume
  rw [dump]
  exact if_pos ⟨rfl, waits⟩

end Completion

/-- Settles O25: the completion is the outcome applied, with the engine at the next record, and then the snapshot of a dump
that waits for this stream. -/
theorem evaluationCompletes : Obligations.EvaluationCompletes := by
  intro s
  refine ⟨fun none_ => ?_, fun x e st' current engine outcome t applied => ?_⟩
  · have same : s.completeEvaluation = s := by
      unfold State.completeEvaluation
      rw [none_]
    exact congrArg Host.Outcome.next same
  · have engine : Evaluator.begin { s.evals with current := none } = e := (Evaluator.begin_idle s.evals).trans engine.symm
    have applied : s.outcomeApplied x = t := by
      rw [applied, State.outcomeApplied, State.applyEvaluation_eq s x.frame outcome, ← engine]
      split <;> rfl
    have completes : s.completeEvaluation = t.dumpResume x.frame.stream := by
      rw [← applied]
      exact State.completeEvaluation_of_some current
    obtain ⟨transit, port⟩ := s.outcomeApplied_frame x
    rw [applied] at transit port
    refine ⟨fun not_waiting => congrArg Host.Outcome.next (completes.trans (State.dumpResume_of_not_waiting (port ▸ not_waiting))),
      fun d dump waits same => ?_⟩
    obtain ⟨a, b, record, isRecord, writes, taken⟩ := t.dumpSnapshot_eq d
    refine ⟨a, b, record, t.transit.ownCount + 2, congrArg Host.Outcome.next (completes.trans ?_), isRecord, writes⟩
    rw [← same, State.dumpResume_of_waiting (port ▸ dump) waits, taken, transit, port]

end Sys2Proof.Machine
end

section
/-! PROOFS. The expiries of the timers (R39, R114, R132, R144, R166, R184): obligation O31. -/

namespace Sys2Proof.Machine

/-! ### DOOR_BLIND in every mode (R144) -/

theorem State.isLive_iff {s : State} :
    s.isLive = true ↔ s.transit.mode = .active ∨ s.transit.mode = .draining ∧ s.transit.drainedFrom = .active := by
  unfold State.isLive
  cases s.transit.mode <;> simp

theorem State.isLive_eq_false {s : State}
    (idle : s.transit.mode = .pass ∨ s.transit.mode = .draining ∧ s.transit.drainedFrom ≠ .active) : s.isLive = false := by
  rw [← Bool.not_eq_true, State.isLive_iff]
  rcases idle with pass | ⟨draining, other⟩
  · simp [pass]
  · simp [draining, other]

theorem State.sendBlind_eq (s : State) (door code : Nat) : s.sendBlind door code = { s with
    notices := if s.transit.mode = .active ∨ s.transit.mode = .draining ∧ s.transit.drainedFrom = .active
      then s.notices.take s.time .doorBlind door code else s.notices } := by
  unfold State.sendBlind
  by_cases live : s.isLive = true
  · rw [if_pos live, if_pos (State.isLive_iff.1 live)]
    rfl
  · rw [if_neg live, if_neg (mt State.isLive_iff.2 live)]

theorem State.blindStream_eq (s : State) (i : Fin 16) (code : Nat) : s.blindStream i code
    = if (s.stream i).cfg.role = .door ∧ ∃ d : Fin 12, (s.stream i).cfg.door = d.val ∧ s.lines.doorOpen d = true
      then s.sendBlind (s.stream i).cfg.door code else s := by
  unfold State.blindStream
  cases door : index? 12 (s.stream i).cfg.door with
  | none =>
    have above := index?_eq_none.1 door
    exact (if_neg fun ⟨_, d, same, _⟩ => by omega).symm
  | some d =>
    have same := index?_eq_some.1 door
    have only (d' : Fin 12) : (s.stream i).cfg.door = d'.val ∧ s.lines.doorOpen d' = true → s.lines.doorOpen d = true :=
      fun ⟨same', opened⟩ => (Fin.ext (same.symm.trans same') : d = d') ▸ opened
    rw [same] at only ⊢
    exact if_congr (and_congr_right fun _ => ⟨fun opened => ⟨d, rfl, opened⟩, fun ⟨d', h⟩ => only d' h⟩) rfl rfl

theorem State.blindStream_of_cfg {s : State} {i : Fin 16} {cfg : StreamConfig} (same : (s.stream i).cfg = cfg) (code : Nat) :
    s.blindStream i code = { s with
      notices := if cfg.role = .door ∧ (∃ d : Fin 12, cfg.door = d.val ∧ s.lines.doorOpen d = true)
          ∧ (s.transit.mode = .active ∨ s.transit.mode = .draining ∧ s.transit.drainedFrom = .active)
        then s.notices.take s.time .doorBlind cfg.door code else s.notices } := by
  subst same
  rw [State.blindStream_eq, State.sendBlind_eq]
  split
  · rename_i opened
    simp only [opened, true_and]
  · rename_i closed
    rw [if_neg fun ⟨role, opened, _⟩ => closed ⟨role, opened⟩]

/-! ### The expiries -/

section Expiry
variable {s : State}

theorem State.takeFreshness_of_live {i : Fin 16} (due : (s.stream i).cap.timer = some s.time)
    (live : (s.stream i).cap.freshness = .live) {q : NoticeQueue}
    (sent : q = s.notices.take s.time .streamStale i.val (s.stream i).cfg.ageLimit) : s.takeFreshness i = { s with
      streams := modAt s.streams i (fun st => { st with cap := { st.cap with freshness := .stale, timer := none } })
      notices := if (s.stream i).cfg.role = .door ∧ (∃ d : Fin 12, (s.stream i).cfg.door = d.val ∧ s.lines.doorOpen d = true)
          ∧ (s.transit.mode = .active ∨ s.transit.mode = .draining ∧ s.transit.drainedFrom = .active)
        then q.take s.time .doorBlind (s.stream i).cfg.door 4 else q } := by
  have stale : ((s.modCapture i fun c => { c with timer := none }).modCapture i fun c => { c with freshness := .stale }).notify
      .streamStale i.val (s.stream i).cfg.ageLimit = { s with
        streams := modAt s.streams i (fun st => { st with cap := { st.cap with freshness := .stale, timer := none } })
        notices := q } := by
    rw [sent]
    dsimp only [State.modCapture, State.modStream, State.notify, State.modNotices]
    rw [modAt_modAt]
  unfold State.takeFreshness State.freshnessExpires
  dsimp only
  rw [if_pos (timerDue_iff.2 due), if_pos live, stale]
  refine State.blindStream_of_cfg ?_ 4
  dsimp only [State.stream]
  rw [modAt_get_self]

theorem State.takeLinger_of_due {x : Fin 2} (due : s.lines.sides[x].timer = some s.time) : s.takeLinger x
    = s.withLines { s.lines with sides := modAt s.lines.sides x (fun _ => ⟨none, []⟩) } := by
  unfold State.takeLinger State.lingerExpires
  rw [if_pos (timerDue_iff.2 due), State.recomputeHidden_eq]
  rfl

theorem State.takeNoticeLinger_of_due (due : s.notices.timer = some s.time) : s.takeNoticeLinger = { s with
    notices := { s.notices with
      due := true
      timer := none
      asserted := !s.notices.records.isEmpty } } := by
  unfold State.takeNoticeLinger
  rw [if_pos (timerDue_iff.2 due)]
  simp [State.modNotices, NoticeQueue.lingerExpires, NoticeQueue.driveLine, NoticeQueue.lineCondition]

theorem State.takeFrame_of_due {c : Fin 2} {f : ScreenFrame} (open_ : (s.screen c).frame = some f) (running : f.expired = false)
    (due : f.timer = some s.time) : s.takeFrame c = if f.inFlight = 0
      then { s with
        pool := s.pool.unpinAll (f.panes.filterMap ViewPane.slot)
        notices := s.notices.take s.time .screenTimeout c.val f.accepted
        comp := { s.comp with screens := modAt s.comp.screens c (fun y =>
          { y with frame := none, timeouts := min 65535 (y.timeouts + 1) }) } }
      else { s with
        notices := s.notices.take s.time .screenTimeout c.val f.accepted
        comp := { s.comp with screens := modAt s.comp.screens c (fun y =>
          { y with frame := some { f with expired := true, timer := none }, timeouts := min 65535 (y.timeouts + 1) }) } } := by
  have taken : s.takeFrame c = s.frameExpires c f := by
    unfold State.takeFrame
    rw [open_]
    exact if_pos (by simp [running, timerDue_iff.2 due])
  generalize told : (s.modScreen c (fun x => { x with
    frame := some { f with expired := true, timer := none }, timeouts := satAdd top16 x.timeouts 1 })).notify
      .screenTimeout c.val f.accepted = u
  have expired : (u.screen c).frame = some { f with expired := true, timer := none } := by
    rw [← told]
    exact congrArg Screen.frame (modAt_get_self ..)
  rw [taken, State.frameExpires, told, State.closeIfServed_of_frame expired]
  subst told
  by_cases served : f.inFlight = 0
  · rw [if_pos ⟨Or.inr rfl, served⟩, if_pos served]
    unfold State.closeFrame
    dsimp only [State.modScreen, State.notify, State.modNotices, State.modPool]
    rw [modAt_modAt]
    rfl
  · rw [if_neg fun h => served h.2, if_neg served]
    rfl

end Expiry

/-- Settles O31: each expiry is taken exactly when its timer stands at part time. -/
theorem timersExpireWhenDue : Obligations.TimersExpireWhenDue := by
  refine ⟨fun s => ⟨fun i due live q sent => ?_, fun x due => ?_, fun due => ?_, fun i early => ?_, fun x early => ?_,
    fun early => ?_⟩, fun s c => ⟨fun f open_ running due => ?_, fun none_ => ?_⟩⟩
  · exact congrArg Host.Outcome.next (State.takeFreshness_of_live due live sent)
  · exact congrArg Host.Outcome.next (State.takeLinger_of_due due)
  · exact congrArg Host.Outcome.next (State.takeNoticeLinger_of_due due)
  · exact congrArg Host.Outcome.next (State.takeFreshness_of_ne early)
  · exact congrArg Host.Outcome.next (State.takeLinger_of_ne early)
  · exact congrArg Host.Outcome.next (State.takeNoticeLinger_of_ne early)
  · exact congrArg Host.Outcome.next (State.takeFrame_of_due open_ running due)
  · exact congrArg Host.Outcome.next (State.takeFrame_of_ne fun f open_ running =>
      (none_ f open_).resolve_left (by simp [running]))

end Sys2Proof.Machine
end

section
/-! PROOFS. What a debounced change of a line and the expiries of the timers reach, and what they leave (R39, R114, R130, R132,
R145, R166). -/

namespace Sys2Proof.Machine

/-! ### What a debounced change reaches (R130, R145) -/

section Change
variable (s : State)

theorem State.makeHold_frame (cause : Cause) (i : Fin 16) (pre post : Nat) : ∃ groups notices pool,
    pool.content = s.pool.content
      ∧ s.makeHold cause i pre post = { s with holds := { s.holds with groups }, notices, pool } := by
  cases decided : s.decideHold i pre with
  | refused code => exact ⟨_, _, _, rfl, State.makeHold_of_refused decided⟩
  | made id h => exact ⟨_, _, _, s.pool.holdAll_content id _, State.makeHold_of_made decided⟩

theorem State.makeHolds_frame (cause : Cause) (pre post : Nat) (l : List (Fin 16)) : ∃ groups notices pool,
    pool.content = s.pool.content ∧ l.foldl (fun s i => s.makeHold cause i pre post) s
      = { s with holds := { s.holds with groups }, notices, pool } := by
  induction l generalizing s with
  | nil => exact ⟨_, _, _, rfl, rfl⟩
  | cons i l ih =>
    obtain ⟨groups, notices, pool, content, same⟩ := s.makeHold_frame cause i pre post
    obtain ⟨groups', notices', pool', content', same'⟩ := ih (s.makeHold cause i pre post)
    rw [same] at content' same'
    exact ⟨groups', notices', pool', content'.trans content, (congrArg (l.foldl _) same).trans same'⟩

theorem State.doorOpens_frame (d : Fin 12) : ∃ sides hidden notices,
    s.doorOpens d = { s with lines := { s.lines with sides, hidden }, notices } := by
  obtain ⟨notices, same⟩ := State.testBlind_frame (s.modSide (sideOf d) (fun x => x.opened d.val)) d.val
  unfold State.doorOpens
  rw [same, State.recomputeHidden_eq]
  exact ⟨_, _, _, rfl⟩

theorem State.doorCloses_frame (d : Fin 12) : ∃ sides hidden notices,
    s.doorCloses d = { s with lines := { s.lines with sides, hidden }, notices } := by
  unfold State.doorCloses
  rw [State.recomputeHidden_eq]
  split
  · exact ⟨_, _, _, rfl⟩
  · exact ⟨_, _, _, rfl⟩

theorem State.obstructionEdge_frame : ∃ obstructions groups notices pool, pool.content = s.pool.content
    ∧ s.obstructionEdge = { s with
        lines := { s.lines with obstructions }
        holds := { s.holds with groups }
        notices := notices
        pool := pool } := by
  unfold State.obstructionEdge
  dsimp only
  split
  · obtain ⟨groups, notices, pool, content, same⟩ :=
      State.makeHolds_frame (s.modLines fun m => { m with obstructions := satAdd top16 m.obstructions 1 }) .obstruction
        s.holds.pre s.holds.post (State.obstructionList (s.modLines fun m => { m with obstructions := satAdd top16 m.obstructions 1 }))
    exact ⟨_, groups, notices, pool, content, same⟩
  · exact ⟨_, _, _, _, rfl, rfl⟩

/-- A change of a line reaches the side records, the hidden flag, the obstruction count, the groups, the slots and the notices. -/
theorem State.lineChanged_frame (l : Fin 15) (high : Bool) : ∃ sides hidden obstructions groups notices pool,
    pool.content = s.pool.content ∧ s.lineChanged l high = { s with
      lines := { s.lines with sides, hidden, obstructions }
      holds := { s.holds with groups }
      notices := notices
      pool := pool } := by
  unfold State.lineChanged
  split
  · rename_i d _
    split
    · obtain ⟨sides, hidden, notices, same⟩ := s.doorOpens_frame d
      exact ⟨sides, hidden, _, _, notices, _, rfl, same⟩
    · obtain ⟨sides, hidden, notices, same⟩ := s.doorCloses_frame d
      exact ⟨sides, hidden, _, _, notices, _, rfl, same⟩
  · split
    · split
      · obtain ⟨obstructions, groups, notices, pool, content, same⟩ := s.obstructionEdge_frame
        exact ⟨_, _, obstructions, groups, notices, pool, content, same⟩
      · exact ⟨_, _, _, _, _, _, rfl, rfl⟩
    · exact ⟨_, _, _, _, _, _, rfl, State.recomputeHidden_eq s⟩

end Change

/-! ### What every event of a millisecond leaves -/

/-- What no line and no expiry changes. -/
structure State.Beside (s t : State) : Prop where
  time : t.time = s.time := by rfl
  inReset : t.inReset = s.inReset := by rfl
  transit : t.transit = s.transit := by rfl
  evals : t.evals = s.evals := by rfl
  port : t.port = s.port := by rfl
  content : t.pool.content = s.pool.content := by rfl
  mapping : t.holds.mapping = s.holds.mapping := by rfl
  doorEnable : t.lines.doorEnable = s.lines.doorEnable := by rfl
  linger : t.lines.linger = s.lines.linger := by rfl
  reverseEnable : t.lines.reverseEnable = s.lines.reverseEnable := by rfl
  preferred : t.lines.preferred = s.lines.preferred := by rfl

section Beside
variable {s t u : State}

theorem State.Beside.trans (first : s.Beside t) (second : t.Beside u) : s.Beside u where
  time := second.time.trans first.time
  inReset := second.inReset.trans first.inReset
  transit := second.transit.trans first.transit
  evals := second.evals.trans first.evals
  port := second.port.trans first.port
  content := second.content.trans first.content
  mapping := second.mapping.trans first.mapping
  doorEnable := second.doorEnable.trans first.doorEnable
  linger := second.linger.trans first.linger
  reverseEnable := second.reverseEnable.trans first.reverseEnable
  preferred := second.preferred.trans first.preferred

theorem State.Beside.foldl {α : Type} {f : State → α → State} (each : ∀ (s : State) a, s.Beside (f s a)) (l : List α) (s : State) :
    s.Beside (l.foldl f s) := by
  induction l generalizing s with
  | nil => exact {}
  | cons a l ih => exact (each s a).trans (ih _)

/-- An expiry leaves the line records too. -/
theorem State.takeFreshness_beside (s : State) (i : Fin 16) :
    s.Beside (s.takeFreshness i) ∧ (s.takeFreshness i).lines.lines = s.lines.lines := by
  unfold State.takeFreshness
  split
  · unfold State.freshnessExpires
    dsimp only
    split
    · obtain ⟨notices, same⟩ := State.blindStream_frame (((s.modCapture i fun c => { c with timer := none }).modCapture i
        fun c => { c with freshness := .stale }).notify .streamStale i.val (s.stream i).cfg.ageLimit) i 4
      rw [same]
      exact ⟨{}, rfl⟩
    · exact ⟨{}, rfl⟩
  · exact ⟨{}, rfl⟩

theorem State.takeFrame_beside (s : State) (c : Fin 2) :
    s.Beside (s.takeFrame c) ∧ (s.takeFrame c).lines.lines = s.lines.lines := by
  unfold State.takeFrame
  split
  · exact ⟨{}, rfl⟩
  · rename_i f _
    split
    · unfold State.frameExpires
      generalize told : State.notify (s.modScreen c _) _ _ _ = u
      have expired : s.Beside u ∧ u.lines.lines = s.lines.lines := by
        subst told
        exact ⟨{}, rfl⟩
      obtain same | ⟨g, same⟩ := u.closeIfServed_cases c
      · rw [same]
        exact expired
      · rw [same]
        obtain ⟨-, -, -, -, -, content⟩ := u.pool.unpinAll_frame g.slots
        exact ⟨expired.1.trans { content := content }, expired.2⟩
    · exact ⟨{}, rfl⟩

theorem State.takeLinger_beside (s : State) (x : Fin 2) :
    s.Beside (s.takeLinger x) ∧ (s.takeLinger x).lines.lines = s.lines.lines := by
  unfold State.takeLinger
  split
  · unfold State.lingerExpires
    rw [State.recomputeHidden_eq]
    exact ⟨{}, rfl⟩
  · exact ⟨{}, rfl⟩

theorem State.takeNoticeLinger_beside (s : State) :
    s.Beside s.takeNoticeLinger ∧ s.takeNoticeLinger.lines.lines = s.lines.lines := by
  unfold State.takeNoticeLinger
  split <;> exact ⟨{}, rfl⟩

end Beside

end Sys2Proof.Machine
end

section
/-! PROOFS. The millisecond step (R129, R130, R141, R184): the samples of one step, the one change of a step, and the expiry
that is taken before it: obligation O28. -/

namespace Sys2Proof.Machine

/-! ### One sample (R129) -/

theorem LineRecord.sample_fst (r : LineRecord) (level : Bool) : (r.sample level).1
    = if level = r.debounced then ⟨level, level, 0⟩
      else if 2 ≤ r.run then ⟨level, level, 0⟩ else ⟨level, r.debounced, r.run + 1⟩ := by
  unfold LineRecord.sample
  split
  · rename_i same
    rw [same]
  · split <;> rfl

/-- A sample makes no debounced change: the level is the debounced one, or has not been sampled twice before. -/
theorem LineRecord.sample_snd (r : LineRecord) (level : Bool) : (r.sample level).2 = false ↔ level = r.debounced ∨ r.run < 2 := by
  unfold LineRecord.sample
  split
  · rename_i same
    simp [same]
  · rename_i differs
    split
    · rename_i third
      simp only [differs, Bool.true_eq_false, false_or, false_iff]
      omega
    · rename_i early
      simpa using Or.inr (Nat.lt_of_not_le early)

/-- The lines with those of a list sampled. -/
def sampleLines (levels : BitVec 15) (ls : List (Fin 15)) (v : Vector LineRecord 15) : Vector LineRecord 15 :=
  ls.foldl (fun v l => modAt v l fun r => (r.sample (levels.getLsbD l.val)).1) v

section Samples
variable {s : State} {levels : BitVec 15}

theorem sampleLines_get {ls : List (Fin 15)} (once : ls.Nodup) (v : Vector LineRecord 15) (k : Fin 15) :
    (sampleLines levels ls v)[k] = if k ∈ ls then (v[k].sample (levels.getLsbD k.val)).1 else v[k] := by
  induction ls generalizing v with
  | nil => simp [sampleLines]
  | cons l ls ih =>
    obtain ⟨new, once⟩ := List.nodup_cons.1 once
    refine (ih once _).trans ?_
    by_cases same : l = k
    · subst same
      rw [if_neg new, if_pos List.mem_cons_self, modAt_get_self]
    · rw [modAt_get_other _ _ _ _ same]
      exact if_congr (by simp [Ne.symm same]) rfl rfl

theorem sampleLines_sampleLines (ls ks : List (Fin 15)) (v : Vector LineRecord 15) :
    sampleLines levels ks (sampleLines levels ls v) = sampleLines levels (ls ++ ks) v := (List.foldl_append).symm

theorem State.sampleLine_eq (s : State) (levels : BitVec 15) (l : Fin 15) : s.sampleLine levels l
    = if (s.lines.lines[l].sample (levels.getLsbD l.val)).2 = true
      then (s.modLines fun m => { m with lines := sampleLines levels [l] m.lines }).lineChanged l (levels.getLsbD l.val)
      else s.modLines fun m => { m with lines := sampleLines levels [l] m.lines } := by
  have record : (modAt s.lines.lines l fun _ => (s.lines.lines[l].sample (levels.getLsbD l.val)).1)
      = sampleLines levels [l] s.lines.lines := modAt_congr _ _ _ _ rfl
  have sampled : (s.modLines fun m => { m with
        lines := modAt m.lines l fun _ => (s.lines.lines[l].sample (levels.getLsbD l.val)).1 })
      = s.modLines fun m => { m with lines := sampleLines levels [l] m.lines } :=
    congrArg (fun v => s.modLines fun m => { m with lines := v }) record
  unfold State.sampleLine
  dsimp only
  rw [sampled]

theorem State.sampleLine_beside (s : State) (levels : BitVec 15) (l : Fin 15) : s.Beside (s.sampleLine levels l)
    ∧ (s.sampleLine levels l).lines.lines = sampleLines levels [l] s.lines.lines
    ∧ (s.sampleLine levels l).streams = s.streams ∧ (s.sampleLine levels l).comp = s.comp := by
  rw [State.sampleLine_eq]
  split
  · obtain ⟨sides, hidden, obstructions, groups, notices, pool, content, same⟩ := State.lineChanged_frame
      (s.modLines fun m => { m with lines := sampleLines levels [l] m.lines }) l (levels.getLsbD l.val)
    rw [same]
    exact ⟨{ content := content }, rfl, rfl, rfl⟩
  · exact ⟨{}, rfl, rfl, rfl⟩

/-- A line without a debounced change is sampled, and nothing else happens. -/
theorem State.sampleLine_quiet {l : Fin 15}
    (quiet : levels.getLsbD l.val = s.lines.lines[l].debounced ∨ s.lines.lines[l].run < 2) :
    s.sampleLine levels l = s.modLines fun m => { m with lines := sampleLines levels [l] m.lines } := by
  rw [State.sampleLine_eq, (LineRecord.sample_snd _ _).2 quiet]
  rfl

theorem State.foldl_sampleLine_quiet {ls : List (Fin 15)} (once : ls.Nodup)
    (quiet : ∀ k ∈ ls, levels.getLsbD k.val = s.lines.lines[k].debounced ∨ s.lines.lines[k].run < 2) :
    ls.foldl (State.sampleLine · levels) s = s.modLines fun m => { m with lines := sampleLines levels ls m.lines } := by
  induction ls generalizing s with
  | nil => rfl
  | cons l ls ih =>
    obtain ⟨new, once⟩ := List.nodup_cons.1 once
    rw [List.foldl_cons, State.sampleLine_quiet (quiet l List.mem_cons_self), ih once fun k mem => ?_]
    · rfl
    · have other : k ≠ l := fun same => new (same ▸ mem)
      have kept : (sampleLines levels [l] s.lines.lines)[k] = s.lines.lines[k] := by
        rw [sampleLines_get (List.nodup_singleton l), if_neg (by simpa using other)]
      rw [State.modLines_lines, kept]
      exact quiet k (List.mem_cons_of_mem _ mem)

/-! ### The events of one step -/

/-- The line an event of a step samples, if it is a sample. -/
def sampledBy : StepEvent → List (Fin 15)
  | .line l => [l]
  | _ => []

theorem nodup_sampledBy (e : StepEvent) : (sampledBy e).Nodup := by
  cases e <;> simp [sampledBy]

theorem mem_sampledBy {e : StepEvent} {k : Fin 15} : k ∈ sampledBy e ↔ StepEvent.line k = e := by
  cases e <;> simp [sampledBy]

theorem State.stepEvent_beside (s : State) (e : StepEvent) : s.Beside (s.stepEvent levels e)
    ∧ (s.stepEvent levels e).lines.lines = sampleLines levels (sampledBy e) s.lines.lines := by
  cases e with
  | line l =>
    obtain ⟨beside, lines, -⟩ := s.sampleLine_beside levels l
    exact ⟨beside, lines⟩
  | freshness i => exact s.takeFreshness_beside i
  | frame c => exact s.takeFrame_beside c
  | linger x => exact s.takeLinger_beside x
  | notice => exact s.takeNoticeLinger_beside

/-- Each line of a list of events is sampled once, whatever stands between the samples. -/
theorem State.foldl_stepEvent_line {es : List StepEvent} (once : es.Nodup) (s : State) (k : Fin 15) :
    (es.foldl (State.stepEvent levels) s).lines.lines[k]
      = if StepEvent.line k ∈ es then (s.lines.lines[k].sample (levels.getLsbD k.val)).1 else s.lines.lines[k] := by
  induction es generalizing s with
  | nil => rfl
  | cons e es ih =>
    obtain ⟨new, once⟩ := List.nodup_cons.1 once
    obtain ⟨-, lines⟩ := s.stepEvent_beside (levels := levels) e
    rw [List.foldl_cons, ih once, lines, sampleLines_get (nodup_sampledBy e)]
    by_cases own : StepEvent.line k = e
    · subst own
      rw [if_neg new, if_pos (mem_sampledBy.2 rfl), if_pos List.mem_cons_self]
    · rw [if_neg (mt mem_sampledBy.1 own)]
      exact if_congr (by simp [own]) rfl rfl

/-- What is left over when part time advances leaves the line records too. -/
theorem State.expireDue_beside (s : State) : s.Beside s.expireDue ∧ s.expireDue.lines.lines = s.lines.lines := by
  have each {n : Nat} {f : State → Fin n → State} (h : ∀ s a, s.Beside (f s a) ∧ (f s a).lines.lines = s.lines.lines)
      (l : List (Fin n)) (s : State) : s.Beside (l.foldl f s) ∧ (l.foldl f s).lines.lines = s.lines.lines := by
    induction l generalizing s with
    | nil => exact ⟨{}, rfl⟩
    | cons a l ih => exact ⟨(h s a).1.trans (ih _).1, (ih _).2.trans (h s a).2⟩
  unfold State.expireDue
  obtain ⟨beside1, lines1⟩ := each State.takeFreshness_beside (List.finRange 16) s
  obtain ⟨beside2, lines2⟩ := each State.takeFrame_beside (List.finRange 2) ((List.finRange 16).foldl State.takeFreshness s)
  obtain ⟨beside3, lines3⟩ := each State.takeLinger_beside (List.finRange 2)
    ((List.finRange 2).foldl State.takeFrame ((List.finRange 16).foldl State.takeFreshness s))
  obtain ⟨beside4, lines4⟩ := State.takeNoticeLinger_beside ((List.finRange 2).foldl State.takeLinger
    ((List.finRange 2).foldl State.takeFrame ((List.finRange 16).foldl State.takeFreshness s)))
  exact ⟨((beside1.trans beside2).trans beside3).trans beside4, ((lines4.trans lines3).trans lines2).trans lines1⟩

end Samples

/-! ### A change of a line does not depend on the samples of the other lines -/

/-- The state with other line records. -/
def State.relined (s : State) (v : Vector LineRecord 15) : State := s.modLines fun m => { m with lines := v }

section Relined
variable {s : State} {v : Vector LineRecord 15}

theorem LineMonitor.openDoors_congr {m m' : LineMonitor} (same : ∀ k : Fin 15, m'.lines[k].debounced = m.lines[k].debounced) :
    m'.openDoors = m.openDoors :=
  congrArg (List.filter · (List.finRange 12)) (funext fun d => same (doorLine d))

theorem State.makeHold_relined (s : State) (v : Vector LineRecord 15) (cause : Cause) (i : Fin 16) (pre post : Nat) :
    (s.relined v).makeHold cause i pre post = (s.makeHold cause i pre post).relined v := by
  have decided : (s.relined v).decideHold i pre = s.decideHold i pre := rfl
  cases h : s.decideHold i pre with
  | refused code => rw [State.makeHold_of_refused h, State.makeHold_of_refused (decided.trans h)]; rfl
  | made id n => rw [State.makeHold_of_made h, State.makeHold_of_made (decided.trans h)]; rfl

theorem State.makeHolds_relined (v : Vector LineRecord 15) (cause : Cause) (pre post : Nat) (l : List (Fin 16)) (s : State) :
    l.foldl (fun s i => s.makeHold cause i pre post) (s.relined v)
      = (l.foldl (fun s i => s.makeHold cause i pre post) s).relined v := by
  induction l generalizing s with
  | nil => rfl
  | cons i l ih =>
    rw [List.foldl_cons, State.makeHold_relined]
    exact ih _

/-- The state with one obstruction more counted. -/
def State.obstructed (s : State) : State := s.modLines fun m => { m with obstructions := min 65535 (m.obstructions + 1) }

theorem State.obstructionEdge_eq (s : State) : s.obstructionEdge = if s.isLive = true
    then s.obstructed.obstructionList.foldl (fun u i => u.makeHold .obstruction i s.holds.pre s.holds.post) s.obstructed
    else s.obstructed := rfl

variable (same : ∀ k : Fin 15, v[k].debounced = s.lines.lines[k].debounced)
include same

theorem State.recomputeHidden_relined : (s.relined v).recomputeHidden = s.recomputeHidden.relined v := by
  have hidden : (s.relined v).lines.reverseIsHidden = s.lines.reverseIsHidden :=
    LineMonitor.reverseIsHidden_congr (fun k _ => same k) rfl rfl rfl rfl
  have doors : (s.relined v).lines.openDoors = s.lines.openDoors := LineMonitor.openDoors_congr same
  rw [State.recomputeHidden_eq, State.recomputeHidden_eq, State.withLines, State.withLines, hidden, doors]
  rfl

theorem State.doorOpens_relined (d : Fin 12) : (s.relined v).doorOpens d = (s.doorOpens d).relined v := by
  have blind : ((s.relined v).modSide (sideOf d) fun x => x.opened d.val).testBlind d.val
      = ((s.modSide (sideOf d) fun x => x.opened d.val).testBlind d.val).relined v :=
    State.testBlind_modLines (s.modSide (sideOf d) fun x => x.opened d.val) (fun m => { m with lines := v }) d.val
  obtain ⟨notices, told⟩ := State.testBlind_frame (s.modSide (sideOf d) fun x => x.opened d.val) d.val
  unfold State.doorOpens
  rw [blind, told]
  exact State.recomputeHidden_relined same

theorem State.doorCloses_relined (d : Fin 12) : (s.relined v).doorCloses d = (s.doorCloses d).relined v := by
  have side : (s.relined v).lines.sideOpen (sideOf d) = s.lines.sideOpen (sideOf d) :=
    congrArg (List.any · _) (LineMonitor.openDoors_congr same)
  unfold State.doorCloses
  rw [side]
  split
  · exact State.recomputeHidden_relined same
  · exact State.recomputeHidden_relined (s := s.modSide (sideOf d) fun x => x.closed s.time s.lines.linger) same

theorem State.obstructionEdge_relined : (s.relined v).obstructionEdge = s.obstructionEdge.relined v := by
  have list : (s.relined v).obstructed.obstructionList = s.obstructed.obstructionList :=
    congrArg (List.filterMap (fun d : Fin 12 => enabledDoorStream s.streams d.val)) (LineMonitor.openDoors_congr same)
  rw [State.obstructionEdge_eq, State.obstructionEdge_eq, list]
  by_cases live : s.isLive = true
  · rw [if_pos live]
    exact (if_pos live).trans (State.makeHolds_relined v .obstruction s.holds.pre s.holds.post _ s.obstructed)
  · rw [if_neg live]
    exact if_neg live

theorem State.lineChanged_relined (l : Fin 15) (high : Bool) : (s.relined v).lineChanged l high = (s.lineChanged l high).relined v := by
  unfold State.lineChanged
  split
  · split
    · exact State.doorOpens_relined same _
    · exact State.doorCloses_relined same _
  · split
    · split
      · exact State.obstructionEdge_relined same
      · rfl
    · exact State.recomputeHidden_relined same

end Relined

/-! ### A step with one change -/

section OnlyChange
variable {s : State} {levels : BitVec 15} {l : Fin 15}

theorem stepOrder_nil : stepOrder [] = (List.finRange 15).map StepEvent.line := by decide

theorem State.stepLines_eq (s : State) (levels : BitVec 15) (ls : List (Fin 15)) :
    (ls.map StepEvent.line).foldl (State.stepEvent levels) s = ls.foldl (State.sampleLine · levels) s := List.foldl_map

/-- The records after one sample of every line. -/
def State.sampledLines (s : State) (levels : BitVec 15) : Vector LineRecord 15 :=
  sampleLines levels (List.finRange 15) s.lines.lines

theorem State.sampledLines_get (s : State) (k : Fin 15) :
    (s.sampledLines levels)[k] = (s.lines.lines[k].sample (levels.getLsbD k.val)).1 :=
  (sampleLines_get (List.nodup_finRange 15) _ k).trans (if_pos (List.mem_finRange k))

/-- The line that changes is the only one with a debounced change. -/
theorem State.onlyChange.changes (only : s.onlyChange levels l) :
    (s.lines.lines[l].sample (levels.getLsbD l.val)).2 = true := by
  obtain ⟨-, level, third, -⟩ := only
  by_contra quiet
  have := (LineRecord.sample_snd _ _).1 (Bool.eq_false_iff.2 quiet)
  rw [level, third] at this
  simp at this

/-- After the step every debounced level is the one sampled. -/
theorem State.onlyChange.debounced (only : s.onlyChange levels l) (k : Fin 15) :
    (s.sampledLines levels)[k].debounced = levels.getLsbD k.val := by
  obtain ⟨-, -, third, others⟩ := only
  rw [State.sampledLines_get, LineRecord.sample_fst]
  by_cases same : k = l
  · subst same
    rw [third]
    split <;> rfl
  · rw [if_pos (others k same)]

theorem State.lineChanged_lines (s : State) (l : Fin 15) (high : Bool) : (s.lineChanged l high).lines.lines = s.lines.lines := by
  obtain ⟨sides, hidden, obstructions, groups, notices, pool, -, told⟩ := s.lineChanged_frame l high
  rw [told]

/-- Of several samples with one change among them the change may be taken last: the other samples move no debounced level. -/
theorem State.foldl_sampleLine_of_change (only : s.onlyChange levels l) {ls : List (Fin 15)} (once : ls.Nodup) :
    ls.foldl (State.sampleLine · levels) s
      = if l ∈ ls then (s.relined (sampleLines levels ls s.lines.lines)).lineChanged l (levels.getLsbD l.val)
        else s.relined (sampleLines levels ls s.lines.lines) := by
  induction ls using List.reverseRecOn with
  | nil => rfl
  | append_singleton ls k ih =>
    obtain ⟨once', -, apart⟩ := List.nodup_append.1 once
    have new : k ∉ ls := fun mem => apart k mem k (List.mem_singleton_self k) rfl
    have kept : (sampleLines levels ls s.lines.lines)[k] = s.lines.lines[k] := (sampleLines_get once' _ k).trans (if_neg new)
    have next : sampleLines levels [k] (sampleLines levels ls s.lines.lines) = sampleLines levels (ls ++ [k]) s.lines.lines :=
      sampleLines_sampleLines ls [k] _
    rw [List.foldl_append, ih once', ← next]
    by_cases own : k = l
    · subst own
      have third : ((s.relined (sampleLines levels ls s.lines.lines)).lines.lines[k].sample (levels.getLsbD k.val)).2 = true :=
        (congrArg (fun r => (LineRecord.sample r (levels.getLsbD k.val)).2) kept).trans only.changes
      rw [if_neg new, if_pos (by simp)]
      exact (State.sampleLine_eq _ levels k).trans (if_pos third)
    · have level : levels.getLsbD k.val = (sampleLines levels ls s.lines.lines)[k].debounced := by
        rw [kept]
        exact only.2.2.2 k own
      have quiet (u : State) (lines : u.lines.lines = sampleLines levels ls s.lines.lines) :
          u.sampleLine levels k = u.relined (sampleLines levels [k] (sampleLines levels ls s.lines.lines)) := by
        rw [← lines] at level ⊢
        exact State.sampleLine_quiet (Or.inl level)
      have still (j : Fin 15) : (sampleLines levels [k] (sampleLines levels ls s.lines.lines))[j].debounced
          = (sampleLines levels ls s.lines.lines)[j].debounced := by
        rw [sampleLines_get (List.nodup_singleton k)]
        split
        · rename_i mem
          obtain rfl := List.mem_singleton.1 mem
          exact LineRecord.sample_debounced _ _ ((LineRecord.sample_snd _ _).2 (Or.inl level))
        · rfl
      by_cases before : l ∈ ls
      · rw [if_pos before, if_pos (List.mem_append_left _ before)]
        exact (quiet _ (State.lineChanged_lines _ l _)).trans (State.lineChanged_relined still l _).symm
      · rw [if_neg before, if_neg (by simp [before, Ne.symm own])]
        exact quiet _ rfl

/-- A step with one change samples every line and acts on the change. -/
theorem exec_partTimeStep_of_onlyChange (only : s.onlyChange levels l) (early : s.NoneDue s.time) :
    exec (.partTimeStep levels []) s = .next ((({ s with time := s.time + 1 } : State).relined (s.sampledLines levels)).lineChanged l
      (levels.getLsbD l.val)) := by
  have running : (if s.inReset = true then s else s.tick levels []) = s.tick levels [] := if_neg (by simp [only.1])
  refine congrArg Host.Outcome.next (running.trans ?_)
  rw [State.tick_of_noneDue early, stepOrder_nil, State.stepLines_eq]
  exact (State.foldl_sampleLine_of_change (s := { s with time := s.time + 1 }) only (List.nodup_finRange 15)).trans
    (if_pos (List.mem_finRange l))

end OnlyChange

/-! ### The expiry taken before the step (R184, log entry 8) -/

section Expiry
variable {s : State} {n : Nat} {f : State → Fin n → State}

/-- Taking first the one of a list whose predecessors are no event makes no difference. -/
theorem foldl_of_taken_first {i : Fin n} (before : ∀ j, j < i → f s j = s) (again : ∀ j, j ≤ i → f (f s i) j = f s i) :
    (List.finRange n).foldl f s = (List.finRange n).foldl f (f s i) := by
  obtain ⟨pre, post, parts⟩ := List.append_of_mem (List.mem_finRange i)
  have ascending : (pre ++ i :: post).Pairwise (· < ·) := parts ▸ List.pairwise_lt_finRange n
  have below (j : Fin n) (mem : j ∈ pre) : j < i := (List.pairwise_append.1 ascending).2.2 j mem i List.mem_cons_self
  rw [parts, List.foldl_append, List.foldl_append, List.foldl_cons, List.foldl_cons,
    foldl_none f s pre fun j mem => before j (below j mem),
    foldl_none f (f s i) pre fun j mem => again j (below j mem).le, again i le_rfl]

theorem State.expireDue_of_freshness {i : Fin 16} (before : ∀ j, j < i → (s.stream j).cap.timer ≠ some s.time) :
    s.expireDue = (s.takeFreshness i).expireDue := by
  obtain ⟨later, taken⟩ := s.takeFreshness_startsNone i
  have first : (List.finRange 16).foldl State.takeFreshness s = (List.finRange 16).foldl State.takeFreshness (s.takeFreshness i) :=
    foldl_of_taken_first (fun j below => State.takeFreshness_of_ne (before j below)) fun j upTo => State.takeFreshness_of_ne <| by
      obtain below | rfl := lt_or_eq_of_le upTo
      · exact later.stream_left (before j below)
      · exact taken
  unfold State.expireDue
  rw [first]

theorem State.foldl_takeFreshness_none (early : ∀ i, (s.stream i).cap.timer ≠ some s.time) :
    (List.finRange 16).foldl State.takeFreshness s = s :=
  foldl_none _ s _ fun i _ => State.takeFreshness_of_ne (early i)

theorem State.foldl_takeFrame_none (early : ∀ c f, (s.screen c).frame = some f → f.expired = false → f.timer ≠ some s.time) :
    (List.finRange 2).foldl State.takeFrame s = s :=
  foldl_none _ s _ fun c _ => State.takeFrame_of_ne (early c)

theorem State.foldl_takeLinger_none (early : ∀ x : Fin 2, s.lines.sides[x].timer ≠ some s.time) :
    (List.finRange 2).foldl State.takeLinger s = s :=
  foldl_none _ s _ fun x _ => State.takeLinger_of_ne (early x)

theorem State.expireDue_of_frame {c : Fin 2} (streams : ∀ i, (s.stream i).cap.timer ≠ some s.time)
    (before : ∀ d, d < c → ∀ f, (s.screen d).frame = some f → f.expired = false → f.timer ≠ some s.time) :
    s.expireDue = (s.takeFrame c).expireDue := by
  obtain ⟨later, taken⟩ := s.takeFrame_startsNone c
  have first : (List.finRange 2).foldl State.takeFrame s = (List.finRange 2).foldl State.takeFrame (s.takeFrame c) :=
    foldl_of_taken_first (fun d below => State.takeFrame_of_ne (before d below)) fun d upTo => State.takeFrame_of_ne <| by
      obtain below | rfl := lt_or_eq_of_le upTo
      · exact later.frame_left (before d below)
      · exact taken
  unfold State.expireDue
  rw [State.foldl_takeFreshness_none streams, State.foldl_takeFreshness_none fun i => later.stream_left (streams i), first]

theorem State.expireDue_of_linger {x : Fin 2} (streams : ∀ i, (s.stream i).cap.timer ≠ some s.time)
    (screens : ∀ c f, (s.screen c).frame = some f → f.expired = false → f.timer ≠ some s.time)
    (before : ∀ y : Fin 2, y < x → s.lines.sides[y].timer ≠ some s.time) : s.expireDue = (s.takeLinger x).expireDue := by
  obtain ⟨later, taken⟩ := s.takeLinger_startsNone x
  have first : (List.finRange 2).foldl State.takeLinger s = (List.finRange 2).foldl State.takeLinger (s.takeLinger x) :=
    foldl_of_taken_first (fun y below => State.takeLinger_of_ne (before y below)) fun y upTo => State.takeLinger_of_ne <| by
      obtain below | rfl := lt_or_eq_of_le upTo
      · exact later.side_left (before y below)
      · exact taken
  unfold State.expireDue
  rw [State.foldl_takeFreshness_none streams, State.foldl_takeFreshness_none fun i => later.stream_left (streams i),
    State.foldl_takeFrame_none screens, State.foldl_takeFrame_none fun c => later.frame_left (screens c), first]

theorem State.expireDue_of_notice (streams : ∀ i, (s.stream i).cap.timer ≠ some s.time)
    (screens : ∀ c f, (s.screen c).frame = some f → f.expired = false → f.timer ≠ some s.time)
    (sides : ∀ x : Fin 2, s.lines.sides[x].timer ≠ some s.time) : s.expireDue = s.takeNoticeLinger.expireDue := by
  obtain ⟨later, taken⟩ := s.takeNoticeLinger_startsNone
  have none_ : s.takeNoticeLinger.NoneDue s.takeNoticeLinger.time :=
    ⟨fun i => later.stream_left (streams i), fun c => later.frame_left (screens c), fun x => later.side_left (sides x), taken⟩
  rw [State.expireDue_of_noneDue none_, State.expireDue, State.foldl_takeFreshness_none streams, State.foldl_takeFrame_none screens,
    State.foldl_takeLinger_none sides]

/-- A step depends on what is left over, and on the state it leaves, only. -/
theorem exec_partTimeStep_of_expireDue {u : State} (running : s.inReset = false) (running' : u.inReset = false)
    (same : s.expireDue = u.expireDue) (levels : BitVec 15) (order : List StepEvent) :
    exec (.partTimeStep levels order) s = exec (.partTimeStep levels order) u := by
  have step (t : State) (running : t.inReset = false) : exec (.partTimeStep levels order) t = .next (t.tick levels order) :=
    congrArg Host.Outcome.next (if_neg (by simp [running]))
  have time : s.time = u.time :=
    (s.expireDue_beside.1.time.symm.trans (congrArg State.time same)).trans u.expireDue_beside.1.time
  rw [step s running, step u running', State.tick, State.tick, same, time]

end Expiry

/-! ### What a step samples and leaves -/

theorem State.tick_beside (s : State) (levels : BitVec 15) (order : List StepEvent) :
    ({ s with time := s.time + 1 } : State).Beside (s.tick levels order) := by
  obtain ⟨due, -⟩ := s.expireDue_beside
  unfold State.tick
  generalize s.expireDue = u at due ⊢
  have advanced : ({ s with time := s.time + 1 } : State).Beside { u with time := s.time + 1 } :=
    { due with time := rfl }
  exact advanced.trans (State.Beside.foldl (fun u e => (u.stepEvent_beside e).1) (stepOrder order) _)

theorem State.tick_lines (s : State) (levels : BitVec 15) (order : List StepEvent) (k : Fin 15) :
    (s.tick levels order).lines.lines[k] = (s.lines.lines[k].sample (levels.getLsbD k.val)).1 := by
  obtain ⟨-, lines⟩ := s.expireDue_beside
  unfold State.tick
  generalize s.expireDue = u at lines ⊢
  rw [State.foldl_stepEvent_line (stepOrder_nodup order), if_pos (mem_stepOrder_line order k), ← lines]

/-- A step that names lines only, with nothing left over, is its samples. -/
theorem State.tick_of_lines {s : State} {order : List StepEvent} (early : s.NoneDue s.time) (named : ∀ e ∈ order, ∃ l, e = .line l)
    (levels : BitVec 15) : ∃ ls : List (Fin 15), ls.Nodup
      ∧ s.tick levels order = ls.foldl (State.sampleLine · levels) { s with time := s.time + 1 } := by
  have lines : stepOrder order ∈ Set.range (List.map StepEvent.line) := by
    rw [Set.range_list_map]
    intro e mem
    obtain ⟨l, rfl⟩ := (mem_stepOrder.1 mem).elim (named e) id
    exact ⟨l, rfl⟩
  obtain ⟨ls, same⟩ := lines
  refine ⟨ls, .of_map _ (same ▸ stepOrder_nodup order), ?_⟩
  rw [State.tick_of_noneDue early, ← same, State.stepLines_eq]

theorem State.foldl_sampleLine_frame (levels : BitVec 15) (ls : List (Fin 15)) (s : State) :
    (ls.foldl (State.sampleLine · levels) s).streams = s.streams ∧ (ls.foldl (State.sampleLine · levels) s).comp = s.comp := by
  induction ls generalizing s with
  | nil => exact ⟨rfl, rfl⟩
  | cons l ls ih =>
    obtain ⟨-, -, streams, comp⟩ := s.sampleLine_beside levels l
    obtain ⟨streams', comp'⟩ := ih (s.sampleLine levels l)
    exact ⟨streams'.trans streams, comp'.trans comp⟩

/-- CAB_B and REVERSE recompute the hidden flag alone (R130, R141). -/
theorem State.lineChanged_of_view {l : Fin 15} (view : l = 12 ∨ l = 13) (s : State) (high : Bool) :
    s.lineChanged l high = s.withLines s.lines := by
  rw [← State.recomputeHidden_eq]
  rcases view with rfl | rfl <;> rfl

/-- Settles O28: every event of the step leaves the frame, and each line is sampled once; the one change of a step is acted on
after all samples; an expiry left over is what the step would begin with. -/
theorem everyLineIsSampledEachMillisecond : Obligations.EveryLineIsSampledEachMillisecond := by
  refine ⟨fun s levels order running => ?_, fun s levels l only view early => ?_,
    fun s u levels order running streams screens sides hstreams hscreens hsides first => ?_⟩
  · have beside := s.tick_beside levels order
    refine ⟨_, congrArg Host.Outcome.next (if_neg (by simp [running])), beside.time, fun k => (s.tick_lines levels order k).trans
      (LineRecord.sample_fst _ _), beside.doorEnable, beside.linger, beside.reverseEnable, beside.preferred, beside.transit,
      beside.evals, beside.port, beside.content, beside.mapping, beside.inReset, fun early named => ?_⟩
    obtain ⟨ls, once, samples⟩ := State.tick_of_lines early named levels
    obtain ⟨streams, comp⟩ := State.foldl_sampleLine_frame levels ls { s with time := s.time + 1 }
    rw [samples]
    refine ⟨streams, comp, fun quiet => ?_⟩
    rw [State.foldl_sampleLine_quiet (s := { s with time := s.time + 1 }) once fun k _ => quiet k]
    exact ⟨rfl, rfl, rfl, rfl, rfl, rfl⟩
  · refine ⟨_, exec_partTimeStep_of_onlyChange only early, ?_⟩
    rw [State.lineChanged_of_view view]
    generalize s.sampledLines levels = v
    exact ⟨rfl, rfl, rfl⟩
  · subst hstreams hscreens hsides
    rcases first with ⟨i, before, taken⟩ | ⟨c, streams, before, taken⟩ | ⟨x, streams, screens, before, taken⟩
      | ⟨streams, screens, sides, taken⟩
    · obtain rfl := Host.Outcome.next.inj taken
      exact exec_partTimeStep_of_expireDue running ((s.takeFreshness_beside i).1.inReset.trans running)
        (State.expireDue_of_freshness before) levels order
    · obtain rfl := Host.Outcome.next.inj taken
      exact exec_partTimeStep_of_expireDue running ((s.takeFrame_beside c).1.inReset.trans running)
        (State.expireDue_of_frame streams before) levels order
    · obtain rfl := Host.Outcome.next.inj taken
      exact exec_partTimeStep_of_expireDue running ((s.takeLinger_beside x).1.inReset.trans running)
        (State.expireDue_of_linger streams screens before) levels order
    · obtain rfl := Host.Outcome.next.inj taken
      exact exec_partTimeStep_of_expireDue running (s.takeNoticeLinger_beside.1.inReset.trans running)
        (State.expireDue_of_notice streams screens sides) levels order

end Sys2Proof.Machine
end

section
/-! PROOFS. The change of OBSTRUCT (R145, R152): obligation O30. -/

namespace Sys2Proof.Machine

section Obstruction
variable {s : State} {levels : BitVec 15}

/-- One hold after another is the holds decided in turn. -/
theorem State.makeHolds_inTurn (cause : Cause) (pre post : Nat) (l : List (Fin 16)) (s : State) :
    s.HoldsInTurn (l.foldl (fun s i => s.makeHold cause i pre post) s) cause pre post l := by
  induction l generalizing s with
  | nil => rfl
  | cons i l ih => exact ⟨_, s.makeHold_decided cause i pre post, ih _⟩

theorem State.obstructionEdge_lines (s : State) : s.obstructionEdge.lines = s.obstructed.lines := by
  rw [State.obstructionEdge_eq]
  split
  · obtain ⟨groups, notices, pool, -, same⟩ := State.makeHolds_frame s.obstructed .obstruction s.holds.pre s.holds.post
      s.obstructed.obstructionList
    rw [same]
  · rfl

theorem doorLine_ne_of_le {l : Fin 15} (above : 12 ≤ l.val) (d : Fin 12) : doorLine d ≠ l := fun same => by
  have : d.val = l.val := congrArg Fin.val same
  omega

/-- A sample in which no door line changes leaves the open doors. -/
theorem State.onlyChange.openDoors {l : Fin 15} (only : s.onlyChange levels l) (above : 12 ≤ l.val) :
    (s.relined (s.sampledLines levels)).lines.openDoors = s.lines.openDoors :=
  congrArg (List.filter · (List.finRange 12)) (funext fun d =>
    (only.debounced (doorLine d)).trans (only.2.2.2 (doorLine d) (doorLine_ne_of_le above d)))

end Obstruction

/-- Settles O30: the holds of the obstruction list are decided in turn on the state with the count raised, and the list is the
streams of the open doors. -/
theorem obstructionHoldsOpenDoors : Obligations.ObstructionHoldsOpenDoors := by
  intro s levels only high early
  have doors := only.openDoors (by decide)
  have step := exec_partTimeStep_of_onlyChange only early
  rw [show levels.getLsbD (14 : Fin 15).val = true from high] at step
  generalize s.sampledLines levels = v at doors step
  generalize advanced : ({ s with time := s.time + 1 } : State).relined v = u at step
  have step : exec (.partTimeStep levels []) s = .next u.obstructionEdge := step
  have live : u.isLive = s.isLive := by
    subst advanced
    rfl
  have list : u.obstructed.obstructionList
      = s.lines.openDoors.filterMap fun d => enabledDoorStream s.streams d.val := by
    subst advanced
    exact congrArg (List.filterMap fun d : Fin 12 => enabledDoorStream s.streams d.val) doors
  have lines := u.obstructionEdge_lines
  have edge := u.obstructionEdge_eq
  refine ⟨_, step, ?_, ?_, ?_, fun idle => ?_, fun active doors sorted opened => ?_⟩
  · exact (congrArg LineMonitor.obstructions lines).trans (by subst advanced; rfl)
  · exact (congrArg LineMonitor.sides lines).trans (by subst advanced; rfl)
  · exact (congrArg LineMonitor.hidden lines).trans (by subst advanced; rfl)
  · have same : u.obstructionEdge = u.obstructed := by
      rcases or_assoc.2 idle with idle | none_
      · exact edge.trans (if_neg (by simp [live, State.isLive_eq_false idle]))
      · have empty : u.obstructed.obstructionList = [] := list.trans <| List.filterMap_eq_nil_iff.2 fun d mem => by
          by_contra some_
          obtain ⟨i, found⟩ := Option.ne_none_iff_exists'.1 some_
          obtain ⟨role, door, enabled⟩ := s.enabledDoorStream_doorStreams.1 _ _ found
          exact Bool.false_ne_true ((none_ d i (LineMonitor.mem_openDoors.1 mem) role door).symm.trans enabled)
        rw [edge, empty]
        exact ite_self _
    rw [same]
    subst advanced
    exact ⟨rfl, rfl, rfl⟩
  · have same : doors = s.lines.openDoors :=
      sorted.eq_of_mem_iff s.lines.openDoors_pairwise fun d => (opened d).trans LineMonitor.mem_openDoors.symm
    have counted : ({ s with time := s.time + 1, lines := u.obstructionEdge.lines } : State) = u.obstructed := by
      rw [lines]
      subst advanced
      rfl
    have pre : s.holds = u.holds := by
      subst advanced
      rfl
    refine ⟨_, s.enabledDoorStream_doorStreams, ?_⟩
    rw [counted, same, ← list, edge, if_pos (live.trans (State.isLive_iff.2 active)), pre]
    exact State.makeHolds_inTurn .obstruction u.holds.pre u.holds.post _ u.obstructed

end Sys2Proof.Machine
end

section
/-! PROOFS. The door lines and the side records (R130, R132, R141, R144): obligation O29. -/

namespace Sys2Proof.Machine

/-! ### The kept list (R132) -/

theorem mem_insertDoor {d k : Nat} {l : List Nat} : k ∈ insertDoor d l ↔ k = d ∨ k ∈ l := by
  induction l with
  | nil => simp [insertDoor]
  | cons x xs ih =>
    unfold insertDoor
    split
    · simp
    · split
      · rename_i same
        simp [same]
      · rw [List.mem_cons, ih, List.mem_cons]
        exact or_left_comm

theorem insertDoor_pairwise {d : Nat} {l : List Nat} (sorted : l.Pairwise (fun a b => a < b)) :
    (insertDoor d l).Pairwise (fun a b => a < b) := by
  induction l with
  | nil => simp [insertDoor]
  | cons x xs ih =>
    obtain ⟨below, rest⟩ := List.pairwise_cons.1 sorted
    unfold insertDoor
    split
    · rename_i before
      refine List.pairwise_cons.2 ⟨fun k mem => ?_, sorted⟩
      obtain rfl | later := List.mem_cons.1 mem
      · exact before
      · exact before.trans (below k later)
    · split
      · exact sorted
      · refine List.pairwise_cons.2 ⟨fun k mem => ?_, ih rest⟩
        obtain rfl | old := mem_insertDoor.1 mem
        · omega
        · exact below k old

/-! ### DOOR_BLIND at an opening (R144) -/

section Blind
variable {s : State} {d : Nat}

theorem State.testBlind_of_not_live (off : s.isLive = false) : s.testBlind d = s := by
  have silent (code : Nat) : s.sendBlind d code = s := if_neg (by simp [off])
  unfold State.testBlind
  split
  · exact silent 1
  · split
    · exact silent 2
    · split
      · exact silent 3
      · exact silent 4
      · rfl

theorem State.sendBlind_of_live (live : s.isLive = true) (code : Nat) :
    s.sendBlind d code = { s with notices := s.notices.take s.time .doorBlind d code } := if_pos live

theorem State.testBlind_of_no_stream (live : s.isLive = true)
    (none_ : ∀ i, (s.stream i).cfg.role = .door → (s.stream i).cfg.door ≠ d) :
    s.testBlind d = { s with notices := s.notices.take s.time .doorBlind d 1 } := by
  have missing : doorStream s.streams d = none := List.find?_eq_none.2 fun i _ => by simpa [State.stream] using none_ i
  unfold State.testBlind
  rw [missing]
  exact State.sendBlind_of_live live 1

theorem doorStream_eq_some {i : Fin 16} (role : (s.stream i).cfg.role = .door) (door : (s.stream i).cfg.door = d)
    (only : ∀ j, (s.stream j).cfg.role = .door → (s.stream j).cfg.door = d → j = i) : doorStream s.streams d = some i := by
  cases found : doorStream s.streams d with
  | none =>
    have missing : (s.stream i).cfg.role = .door → (s.stream i).cfg.door ≠ d := by
      simpa [State.stream] using List.find?_eq_none.1 found i (List.mem_finRange i)
    exact absurd door (missing role)
  | some j =>
    have holds : (s.stream j).cfg.role = .door ∧ (s.stream j).cfg.door = d := by
      simpa [State.stream] using List.find?_some found
    rw [only j holds.1 holds.2]

theorem State.testBlind_of_stream (live : s.isLive = true) {i : Fin 16} (stream : doorStream s.streams d = some i) :
    s.testBlind d = { s with notices := if (s.stream i).cfg.enabled = false then s.notices.take s.time .doorBlind d 2
      else match (s.stream i).cap.freshness with
        | .noSignal => s.notices.take s.time .doorBlind d 3
        | .stale => s.notices.take s.time .doorBlind d 4
        | .live => s.notices } := by
  unfold State.testBlind
  rw [stream]
  dsimp only
  cases (s.stream i).cfg.enabled with
  | false => exact State.sendBlind_of_live live 2
  | true =>
    cases (s.stream i).cap.freshness with
    | noSignal => exact State.sendBlind_of_live live 3
    | stale => exact State.sendBlind_of_live live 4
    | live => rfl

end Blind

/-! ### A door line changes -/

section Door
variable {s : State} {levels : BitVec 15} {d : Fin 12}

theorem State.doorOpens_eq (s : State) (d : Fin 12) : s.doorOpens d
    = (s.testBlind d.val).withLines { s.lines with sides := modAt s.lines.sides (sideOf d) fun x => x.opened d.val } := by
  have blind : (s.modSide (sideOf d) fun x => x.opened d.val).testBlind d.val
      = (s.testBlind d.val).modLines fun m => { m with sides := modAt m.sides (sideOf d) fun x => x.opened d.val } :=
    s.testBlind_modLines (fun m => { m with sides := modAt m.sides (sideOf d) fun x => x.opened d.val }) d.val
  obtain ⟨notices, told⟩ := s.testBlind_frame d.val
  unfold State.doorOpens
  rw [blind, State.recomputeHidden_eq, told]
  rfl

theorem State.doorCloses_eq (s : State) (d : Fin 12) : s.doorCloses d = s.withLines (if s.lines.sideOpen (sideOf d) = true
    then s.lines else { s.lines with sides := modAt s.lines.sides (sideOf d) fun x => x.closed s.time s.lines.linger }) := by
  unfold State.doorCloses
  rw [State.recomputeHidden_eq]
  split <;> rfl

theorem State.lineChanged_of_door (s : State) (d : Fin 12) (high : Bool) :
    s.lineChanged (doorLine d) high = if high = true then s.doorOpens d else s.doorCloses d := by
  have door : index? 12 (doorLine d).val = some d := index?_val d
  unfold State.lineChanged
  rw [door]

theorem State.doorOpens_relined_eq (s : State) (v : Vector LineRecord 15) (d : Fin 12) : (s.relined v).doorOpens d
    = ({ s with notices := (s.testBlind d.val).notices } : State).withLines { s.lines with
        lines := v
        sides := modAt s.lines.sides (sideOf d) fun x => x.opened d.val } := by
  have blind : (s.relined v).testBlind d.val = (s.testBlind d.val).relined v :=
    s.testBlind_modLines (fun m => { m with lines := v }) d.val
  obtain ⟨notices, told⟩ := s.testBlind_frame d.val
  rw [State.doorOpens_eq, blind, told]
  rfl

/-- A step with one change, of a door line. -/
theorem exec_partTimeStep_of_door (only : s.onlyChange levels (doorLine d)) (early : s.NoneDue s.time) :
    exec (.partTimeStep levels []) s = .next (if levels.getLsbD d.val = true
      then (({ s with time := s.time + 1 } : State).relined (s.sampledLines levels)).doorOpens d
      else (({ s with time := s.time + 1 } : State).relined (s.sampledLines levels)).doorCloses d) :=
  (exec_partTimeStep_of_onlyChange only early).trans (congrArg Host.Outcome.next (State.lineChanged_of_door _ d _))

theorem other_ne (x : Fin 2) : other x ≠ x := by
  unfold other
  split <;> omega

theorem stepOrder_linger : ∀ x : Fin 2, stepOrder [.linger x] = .linger x :: (List.finRange 15).map StepEvent.line := by decide

/-- The linger timer of a side, named before the line of a door that opens. -/
theorem exec_partTimeStep_of_linger_of_door (only : s.onlyChange levels (doorLine d)) (early : s.NoneDue s.time)
    (high : levels.getLsbD d.val = true) {x : Fin 2} (due : s.lines.sides[x].timer = some (s.time + 1)) :
    ∃ u : State, u.lines.sides = modAt s.lines.sides x (fun _ => ⟨none, []⟩)
      ∧ exec (.partTimeStep levels [.linger x]) s = .next ((u.relined (s.sampledLines levels)).doorOpens d) := by
  refine ⟨({ s with time := s.time + 1 } : State).takeLinger x, ?_, ?_⟩
  · rw [State.takeLinger_of_due (s := { s with time := s.time + 1 }) due]
    rfl
  · have lines := (({ s with time := s.time + 1 } : State).takeLinger_beside x).2
    have running := (({ s with time := s.time + 1 } : State).takeLinger_beside x).1.inReset
    have taken : s.tick levels [.linger x]
        = (List.finRange 15).foldl (State.sampleLine · levels) (({ s with time := s.time + 1 } : State).takeLinger x) := by
      rw [State.tick_of_noneDue early, stepOrder_linger, List.foldl_cons, State.stepLines_eq]
      rfl
    generalize ({ s with time := s.time + 1 } : State).takeLinger x = u at lines running taken ⊢
    have only' : u.onlyChange levels (doorLine d) := by
      unfold State.onlyChange
      rw [lines, running]
      exact only
    refine congrArg Host.Outcome.next ((if_neg (by simp [only.1])).trans (taken.trans ?_))
    rw [State.foldl_sampleLine_of_change only' (List.nodup_finRange 15), if_pos (List.mem_finRange _), State.lineChanged_of_door, lines]
    exact if_pos high

/-- The doors of a side that stand open behind one that closes. -/
theorem State.onlyChange.sideOpen_iff (only : s.onlyChange levels (doorLine d)) (low : levels.getLsbD d.val = false) (x : Fin 2) :
    (s.relined (s.sampledLines levels)).lines.sideOpen x = true ↔ ∃ k, k ≠ d ∧ sideOf k = x ∧ s.lines.doorOpen k = true := by
  rw [LineMonitor.sideOpen_iff]
  refine exists_congr fun k => ?_
  have now : (s.relined (s.sampledLines levels)).lines.doorOpen k = levels.getLsbD k.val := only.debounced (doorLine k)
  rw [now]
  by_cases own : k = d
  · subst own
    simp [low]
  · have before : levels.getLsbD k.val = s.lines.doorOpen k :=
      only.2.2.2 (doorLine k) fun same => own (Fin.ext ((congrArg Fin.val same :)))
    simp [own, before]

end Door

/-- Settles O29: the change of the door line is acted on after all samples, on the state with the side record changed and the
blind test made. -/
theorem doorLinesMoveTheirSide : Obligations.DoorLinesMoveTheirSide := by
  intro s levels d only early
  have step := exec_partTimeStep_of_door only early
  have level : (s.sampledLines levels)[doorLine d].debounced = levels.getLsbD d.val := only.debounced (doorLine d)
  refine ⟨fun high => ?_, fun high due => ?_, fun low => ?_⟩
  · rw [if_pos high] at step
    rw [high] at level
    generalize s.sampledLines levels = v at step level
    generalize advanced : ({ s with time := s.time + 1 } : State) = u at step
    have moved : (modAt u.lines.sides (sideOf d) fun x => x.opened d.val)[sideOf d] = s.lines.sides[sideOf d].opened d.val := by
      rw [modAt_get_self]
      subst advanced
      rfl
    have live : u.isLive = s.isLive := by
      subst advanced
      rfl
    refine ⟨_, (u.testBlind d.val).notices, step, ?_⟩
    rw [State.doorOpens_relined_eq]
    refine ⟨level, ?_, congrArg Side.timer moved, fun k => ?_, fun sorted => ?_, ?_, ?_, fun idle => ?_, fun active =>
      ⟨fun none_ => ?_, fun i role door unique => ?_⟩⟩
    · subst advanced
      rfl
    · exact (congrArg (k ∈ Side.kept ·) moved).to_iff.trans mem_insertDoor
    · exact (congrArg Side.kept moved) ▸ insertDoor_pairwise sorted
    · subst advanced
      exact modAt_get_other _ _ _ _ (other_ne _).symm
    · subst advanced
      rfl
    · rw [State.testBlind_of_not_live (live.trans (State.isLive_eq_false idle))]
      subst advanced
      rfl
    · rw [State.testBlind_of_no_stream (live.trans (State.isLive_iff.2 active)) (by subst advanced; exact none_)]
      subst advanced
      rfl
    · have stream : doorStream u.streams d.val = some i := by
        subst advanced
        exact doorStream_eq_some role door unique
      rw [State.testBlind_of_stream (live.trans (State.isLive_iff.2 active)) stream]
      subst advanced
      rfl
  · obtain ⟨u, sides, step⟩ := exec_partTimeStep_of_linger_of_door only early high due
    refine ⟨_, step, ?_⟩
    rw [State.doorOpens_relined_eq]
    refine ⟨level.trans high, ?_⟩
    refine (modAt_get_self ..).trans ?_
    rw [sides, modAt_get_self]
    rfl
  · have closes := only.sideOpen_iff low (sideOf d)
    rw [low] at step level
    generalize s.sampledLines levels = v at step level closes
    generalize advanced : ({ s with time := s.time + 1 } : State) = u at step
    have closes : (u.relined v).lines.sideOpen (sideOf d) = true
        ↔ ∃ k, k ≠ d ∧ sideOf k = sideOf d ∧ s.lines.doorOpen k = true := by
      subst advanced
      exact closes
    rw [if_neg Bool.false_ne_true, State.doorCloses_eq] at step
    by_cases opened : (u.relined v).lines.sideOpen (sideOf d) = true
    · rw [if_pos opened] at step
      rw [if_pos (closes.1 opened)]
      subst advanced
      exact ⟨_, step, level, rfl, rfl, rfl, rfl⟩
    · rw [if_neg opened] at step
      rw [if_neg (mt closes.2 opened)]
      subst advanced
      exact ⟨_, step, level, rfl, modAt_get_other _ _ _ _ (other_ne _).symm, rfl, (modAt_get_self ..).trans rfl⟩

end Sys2Proof.Machine
end
